-- ==== Sys2Proof/Word.lean ====
section
/-! DEFINITION. The value types of the core: a cell value, a byte from outside, text, and the width profile.

A cell, a register and an address are each at most 32 bits wide (00_scope R6), so one type `Word` holds them all;
the profile says how many of its bits a value may use, and every write masks to that many (10_state R21, R26). -/

namespace Sys2Proof

/-- A register value, a cell value or an address, as bits (00_scope R10). -/
abbrev Word := BitVec 32

/-- A value in [0, 255] that comes from outside the core: a draw or a keycode (20_memory R61, R62). -/
abbrev Byte := BitVec 8

/-- Source text, a label name or an output line: a list of characters. -/
abbrev Text := List Char

/-- The width profile: the one configuration parameter `dw ∈ {8, 16, 32}` of the hardware (00_scope R5). -/
inductive Width where
  | w8
  | w16
  | w32
deriving DecidableEq, Repr

/-- `dw`, the data width in bits (00_scope R5). -/
def Width.dw : Width → Nat
  | .w8 => 8
  | .w16 => 16
  | .w32 => 32

/-- `v` is a cell value of the profile: it lies in `[0, DM]` (00_scope R10). -/
def Width.fits (w : Width) (v : Word) : Bool :=
  decide (v.toNat < 2 ^ w.dw)

end Sys2Proof
end

