-- ==== Sys2Proof/Config.lean ====
section
/-! DEFINITION. What is fixed for the machine, and the free values: constants without a body, of which no proof
can see a value. -/

namespace Sys2Proof

/-- The two decimal operations of the open parameter `wideDecimal` (41_arithmetic_logic R147). -/
inductive DecimalOp where
  | add
  | sub
deriving DecidableEq, Repr

/-- The width profile of `State.reset`. DESIGN CHOICE (log 1), unsafe: the spec gives no default width; every other
definition takes the width from the state. -/
def Config.bootWidth : Width := .w8

/-- ORIGIN of `State.reset`: the default of 00_scope R7. -/
def Config.bootOrigin : Word := 0x600

/-- The byte the environment draws for the refresh numbered `n`, when it has fixed none (20_memory R61; log 5).
Safe: nothing constrains it. -/
opaque Config.freeDraw : Nat → Byte

/-- The open parameter `wideDecimal(dw, op, A, m, C, V) = (r, C', V')` (00_scope R8, 41_arithmetic_logic R147;
log 6). Safe: nothing constrains it. Used at dw = 16 and 32 only. -/
opaque Config.wideDecimal : Width → DecimalOp → Word → Word → Bool → Bool → Word × Bool × Bool

end Sys2Proof
end

