-- ==== Sys2Proof/Machine/Profile.lean ====
section
/-! DEFINITION. The derived fields of the width profile, and the bit and byte-order helpers every other file uses
(00_scope R6, R10, R11; 20_memory R54, R56). -/

namespace Sys2Proof

/-- `aw`, the address width in bits (00_scope R6). -/
def Width.aw (w : Width) : Nat :=
  if w.dw ≤ 16 then 2 * w.dw else w.dw

/-- `DM = 2^dw - 1` (00_scope R6). -/
def Width.dataMask (w : Width) : Nat := 2 ^ w.dw - 1

/-- `AM = 4 * 2^(aw-2) - 1` (00_scope R6). -/
def Width.addrMask (w : Width) : Nat := 4 * 2 ^ (w.aw - 2) - 1

/-- `SB`, the value of the sign bit (00_scope R6, D4). -/
def Width.signBit (w : Width) : Nat := 2 ^ (w.dw - 1)

/-- `VB`, the value of the overflow bit (00_scope R6, D4). -/
def Width.overflowBit (w : Width) : Nat := 2 ^ (w.dw - 2)

/-- `STACK_BASE` (00_scope R6, 10_state R32). -/
def Width.stackBase (w : Width) : Nat :=
  if w.dw < 32 then 2 ^ w.dw else 0

/-- `n AND DM` as a cell value: the reduction of every data write (00_scope R11, R12). -/
def Width.cell (w : Width) (n : Nat) : Word :=
  BitVec.ofNat 32 (n % 2 ^ w.dw)

/-- `n AND DM` where `n` may be negative: two's-complement reduction (00_scope R11). -/
def Width.cellInt (w : Width) (n : Int) : Word :=
  BitVec.ofNat 32 (n % (2 ^ w.dw : Nat)).toNat

/-- `n AND AM`: the reduction of every address (00_scope R12). -/
def Width.addr (w : Width) (n : Nat) : Nat :=
  n % 2 ^ w.aw

/-- `n AND AM` as bits: the reduction of every write of PC (10_state R26). -/
def Width.addrWord (w : Width) (n : Nat) : Word :=
  BitVec.ofNat 32 (w.addr n)

/-- `word(lo, hi)`, the little-endian address of two cells; at dw = 32 it is `lo` (20_memory R54, R55). -/
def Width.word (w : Width) (lo hi : Word) : Nat :=
  w.addr (lo.toNat + hi.toNat * 2 ^ w.dw)

/-- `lo(v)`, the low limb of an address (20_memory R56; log 16). -/
def Width.lo (w : Width) (v : Nat) : Word := w.cell v

/-- `hi(v)`, the high limb of an address (20_memory R56); 0 at dw = 32 for every `v` (45_assembler R235, R236). DESIGN
CHOICE (log 16): a label at AM + 1, for which R56 defines no limb, has the limbs of `v AND AM`, 0 and 0. -/
def Width.hi (w : Width) (v : Nat) : Word := w.cell (w.addr v / 2 ^ w.dw)

/-- `signed(v)` (00_scope R10). -/
def Width.signed (w : Width) (v : Word) : Int :=
  if v.toNat ≥ w.signBit then (v.toNat : Int) - (2 ^ w.dw : Nat) else v.toNat

/-- Bit `dw-1` of `v`: the sign bit (10_state R27, R30). -/
def Width.msb (w : Width) (v : Word) : Bool := v.getLsbD (w.dw - 1)

/-- Bit `dw-2` of `v`: the bit V is copied from by BIT (10_state R27, 41_arithmetic_logic R155). -/
def Width.msb2 (w : Width) (v : Word) : Bool := v.getLsbD (w.dw - 2)

/-- `v` with bit `k` set to `b` and every other bit kept (10_state R28). -/
def Word.setBit (v : Word) (k : Nat) (b : Bool) : Word :=
  if b then v ||| (1#32 <<< k) else v &&& ~~~(1#32 <<< k)

/-- 1 or 0: a flag as a number. -/
def bitNat (b : Bool) : Nat := if b then 1 else 0

end Sys2Proof
end

