-- ==== Sys2Proof/Syntax.lean ====
section
/-! DEFINITION. The instructions as syntax: one constructor of `Instr` per row of the opcode table
(30_encoding R100), the mnemonics, the addressing modes and the operand forms (30_encoding R81).

The constructors of a three-cell row hold both operand cells `lo hi`, so that no cell is lost in the 32-bit profile,
where the third cell is fetched and ignored (30_encoding R103). -/

namespace Sys2Proof

/-- The 56 mnemonics (30_encoding R100). -/
inductive Mnemonic where
  | adc | and | asl | bcc | bcs | beq | bit | bmi
  | bne | bpl | brk | bvc | bvs | clc | cld | cli
  | clv | cmp | cpx | cpy | dec | dex | dey | eor
  | inc | inx | iny | jmp | jsr | lda | ldx | ldy
  | lsr | nop | ora | pha | php | pla | plp | rol
  | ror | rti | rts | sbc | sec | sed | sei | sta
  | stx | sty | tax | tay | tsx | txa | txs | tya
deriving DecidableEq, Repr

/-- The twelve addressing modes (30_encoding R81; 90_conflicts C1). -/
inductive Mode where
  | single | imm | zp | zpx | zpy | abs | absx | absy | ind | indx | indy | rel
deriving DecidableEq, Repr

/-- The operand forms that name one memory cell, with their operand cells (30_encoding R87 to R92, R94, R95). -/
inductive MemOperand where
  | zp (z : Word)
  | zpx (z : Word)
  | zpy (z : Word)
  | abs (lo hi : Word)
  | absx (lo hi : Word)
  | absy (lo hi : Word)
  | indx (z : Word)
  | indy (z : Word)
deriving DecidableEq, Repr

/-- The operand forms of an instruction, with their operand cells (30_encoding R86 to R97). -/
inductive Operand where
  | single
  | imm (v : Word)
  | mem (o : MemOperand)
  | ind (lo hi : Word)
  | rel (d : Word)
deriving DecidableEq, Repr

/-- One row of the opcode table (30_encoding R100). -/
structure OpcodeRow where
  opcode : Nat
  mnemonic : Mnemonic
  mode : Mode
deriving DecidableEq, Repr

/-- The instructions: one constructor per row of the opcode table (30_encoding R100). -/
inductive Instr where
  | adcImm (v : Word)
  | adcZp (z : Word)
  | adcZpx (z : Word)
  | adcAbs (lo hi : Word)
  | adcAbsx (lo hi : Word)
  | adcAbsy (lo hi : Word)
  | adcIndx (z : Word)
  | adcIndy (z : Word)
  | andImm (v : Word)
  | andZp (z : Word)
  | andZpx (z : Word)
  | andAbs (lo hi : Word)
  | andAbsx (lo hi : Word)
  | andAbsy (lo hi : Word)
  | andIndx (z : Word)
  | andIndy (z : Word)
  | aslAcc
  | aslZp (z : Word)
  | aslZpx (z : Word)
  | aslAbs (lo hi : Word)
  | aslAbsx (lo hi : Word)
  | bcc (d : Word)
  | bcs (d : Word)
  | beq (d : Word)
  | bitZp (z : Word)
  | bitAbs (lo hi : Word)
  | bmi (d : Word)
  | bne (d : Word)
  | bpl (d : Word)
  | brk
  | bvc (d : Word)
  | bvs (d : Word)
  | clc
  | cld
  | cli
  | clv
  | cmpImm (v : Word)
  | cmpZp (z : Word)
  | cmpZpx (z : Word)
  | cmpAbs (lo hi : Word)
  | cmpAbsx (lo hi : Word)
  | cmpAbsy (lo hi : Word)
  | cmpIndx (z : Word)
  | cmpIndy (z : Word)
  | cpxImm (v : Word)
  | cpxZp (z : Word)
  | cpxAbs (lo hi : Word)
  | cpyImm (v : Word)
  | cpyZp (z : Word)
  | cpyAbs (lo hi : Word)
  | decZp (z : Word)
  | decZpx (z : Word)
  | decAbs (lo hi : Word)
  | decAbsx (lo hi : Word)
  | dex
  | dey
  | eorImm (v : Word)
  | eorZp (z : Word)
  | eorZpx (z : Word)
  | eorAbs (lo hi : Word)
  | eorAbsx (lo hi : Word)
  | eorAbsy (lo hi : Word)
  | eorIndx (z : Word)
  | eorIndy (z : Word)
  | incZp (z : Word)
  | incZpx (z : Word)
  | incAbs (lo hi : Word)
  | incAbsx (lo hi : Word)
  | inx
  | iny
  | jmpAbs (lo hi : Word)
  | jmpInd (lo hi : Word)
  | jsrAbs (lo hi : Word)
  | ldaImm (v : Word)
  | ldaZp (z : Word)
  | ldaZpx (z : Word)
  | ldaAbs (lo hi : Word)
  | ldaAbsx (lo hi : Word)
  | ldaAbsy (lo hi : Word)
  | ldaIndx (z : Word)
  | ldaIndy (z : Word)
  | ldxImm (v : Word)
  | ldxZp (z : Word)
  | ldxZpy (z : Word)
  | ldxAbs (lo hi : Word)
  | ldxAbsy (lo hi : Word)
  | ldyImm (v : Word)
  | ldyZp (z : Word)
  | ldyZpx (z : Word)
  | ldyAbs (lo hi : Word)
  | ldyAbsx (lo hi : Word)
  | lsrAcc
  | lsrZp (z : Word)
  | lsrZpx (z : Word)
  | lsrAbs (lo hi : Word)
  | lsrAbsx (lo hi : Word)
  | nop
  | oraImm (v : Word)
  | oraZp (z : Word)
  | oraZpx (z : Word)
  | oraAbs (lo hi : Word)
  | oraAbsx (lo hi : Word)
  | oraAbsy (lo hi : Word)
  | oraIndx (z : Word)
  | oraIndy (z : Word)
  | pha
  | php
  | pla
  | plp
  | rolAcc
  | rolZp (z : Word)
  | rolZpx (z : Word)
  | rolAbs (lo hi : Word)
  | rolAbsx (lo hi : Word)
  | rorAcc
  | rorZp (z : Word)
  | rorZpx (z : Word)
  | rorAbs (lo hi : Word)
  | rorAbsx (lo hi : Word)
  | rti
  | rts
  | sbcImm (v : Word)
  | sbcZp (z : Word)
  | sbcZpx (z : Word)
  | sbcAbs (lo hi : Word)
  | sbcAbsx (lo hi : Word)
  | sbcAbsy (lo hi : Word)
  | sbcIndx (z : Word)
  | sbcIndy (z : Word)
  | sec
  | sed
  | sei
  | staZp (z : Word)
  | staZpx (z : Word)
  | staAbs (lo hi : Word)
  | staAbsx (lo hi : Word)
  | staAbsy (lo hi : Word)
  | staIndx (z : Word)
  | staIndy (z : Word)
  | stxZp (z : Word)
  | stxZpy (z : Word)
  | stxAbs (lo hi : Word)
  | styZp (z : Word)
  | styZpx (z : Word)
  | styAbs (lo hi : Word)
  | tax
  | tay
  | tsx
  | txa
  | txs
  | tya
deriving DecidableEq, Repr

end Sys2Proof
end

