-- ==== Sys2Proof/WellFormed.lean ====
section
/-! DEFINITION. Well-formed instructions: every operand cell is a cell value of the profile, in `[0, DM]`
(30_encoding R80, 00_scope R10). Nothing else can be wrong with a term of `Instr`: a mode that a mnemonic lacks has
no constructor. -/

namespace Sys2Proof

/-- The operand cells of an instruction, lowest address first (30_encoding R81). -/
def Instr.operandCells : Instr → List Word
  | .aslAcc | .brk | .clc | .cld | .cli | .clv | .dex | .dey | .inx | .iny | .lsrAcc | .nop | .pha | .php
  | .pla | .plp | .rolAcc | .rorAcc | .rti | .rts | .sec | .sed | .sei | .tax | .tay | .tsx | .txa | .txs
  | .tya => []
  | .adcImm v | .adcZp v | .adcZpx v | .adcIndx v | .adcIndy v | .andImm v | .andZp v | .andZpx v
  | .andIndx v | .andIndy v | .aslZp v | .aslZpx v | .bcc v | .bcs v | .beq v | .bitZp v | .bmi v | .bne v
  | .bpl v | .bvc v | .bvs v | .cmpImm v | .cmpZp v | .cmpZpx v | .cmpIndx v | .cmpIndy v | .cpxImm v
  | .cpxZp v | .cpyImm v | .cpyZp v | .decZp v | .decZpx v | .eorImm v | .eorZp v | .eorZpx v | .eorIndx v
  | .eorIndy v | .incZp v | .incZpx v | .ldaImm v | .ldaZp v | .ldaZpx v | .ldaIndx v | .ldaIndy v
  | .ldxImm v | .ldxZp v | .ldxZpy v | .ldyImm v | .ldyZp v | .ldyZpx v | .lsrZp v | .lsrZpx v | .oraImm v
  | .oraZp v | .oraZpx v | .oraIndx v | .oraIndy v | .rolZp v | .rolZpx v | .rorZp v | .rorZpx v | .sbcImm v
  | .sbcZp v | .sbcZpx v | .sbcIndx v | .sbcIndy v | .staZp v | .staZpx v | .staIndx v | .staIndy v
  | .stxZp v | .stxZpy v | .styZp v | .styZpx v => [v]
  | .adcAbs lo hi | .adcAbsx lo hi | .adcAbsy lo hi | .andAbs lo hi | .andAbsx lo hi | .andAbsy lo hi
  | .aslAbs lo hi | .aslAbsx lo hi | .bitAbs lo hi | .cmpAbs lo hi | .cmpAbsx lo hi | .cmpAbsy lo hi
  | .cpxAbs lo hi | .cpyAbs lo hi | .decAbs lo hi | .decAbsx lo hi | .eorAbs lo hi | .eorAbsx lo hi
  | .eorAbsy lo hi | .incAbs lo hi | .incAbsx lo hi | .jmpAbs lo hi | .jmpInd lo hi | .jsrAbs lo hi
  | .ldaAbs lo hi | .ldaAbsx lo hi | .ldaAbsy lo hi | .ldxAbs lo hi | .ldxAbsy lo hi | .ldyAbs lo hi
  | .ldyAbsx lo hi | .lsrAbs lo hi | .lsrAbsx lo hi | .oraAbs lo hi | .oraAbsx lo hi | .oraAbsy lo hi
  | .rolAbs lo hi | .rolAbsx lo hi | .rorAbs lo hi | .rorAbsx lo hi | .sbcAbs lo hi | .sbcAbsx lo hi
  | .sbcAbsy lo hi | .staAbs lo hi | .staAbsx lo hi | .staAbsy lo hi | .stxAbs lo hi | .styAbs lo hi => [lo, hi]

/-- Every operand cell of `i` is a cell value of the profile `w`. -/
def Instr.wf (w : Width) (i : Instr) : Bool :=
  i.operandCells.all w.fits

end Sys2Proof
end

