-- ==== Sys2Proof/Decode.lean ====
section
/-! DEFINITION. The opcode table, the decoder from cells to instructions, and the encoder back. Assembler,
disassembler and engine all use this one table (30_encoding R85, R100). -/

namespace Sys2Proof

/-- The whole-instruction length of a mode, in cells; the same in every profile (30_encoding R82). -/
def Mode.length : Mode → Nat
  | .single => 1
  | .imm | .zp | .zpx | .zpy | .indx | .indy | .rel => 2
  | .abs | .absx | .absy | .ind => 3

/-- The opcode rows ADC to BMI (30_encoding R100). -/
def opcodeRowsAdcBmi : List OpcodeRow := [
  ⟨0x69, .adc, .imm⟩, ⟨0x65, .adc, .zp⟩, ⟨0x75, .adc, .zpx⟩, ⟨0x6D, .adc, .abs⟩, ⟨0x7D, .adc, .absx⟩, ⟨0x79, .adc, .absy⟩, ⟨0x61, .adc, .indx⟩, ⟨0x71, .adc, .indy⟩,
  ⟨0x29, .and, .imm⟩, ⟨0x25, .and, .zp⟩, ⟨0x35, .and, .zpx⟩, ⟨0x2D, .and, .abs⟩, ⟨0x3D, .and, .absx⟩, ⟨0x39, .and, .absy⟩, ⟨0x21, .and, .indx⟩, ⟨0x31, .and, .indy⟩,
  ⟨0x0A, .asl, .single⟩, ⟨0x06, .asl, .zp⟩, ⟨0x16, .asl, .zpx⟩, ⟨0x0E, .asl, .abs⟩, ⟨0x1E, .asl, .absx⟩,
  ⟨0x90, .bcc, .rel⟩,
  ⟨0xB0, .bcs, .rel⟩,
  ⟨0xF0, .beq, .rel⟩,
  ⟨0x24, .bit, .zp⟩, ⟨0x2C, .bit, .abs⟩,
  ⟨0x30, .bmi, .rel⟩]

/-- The opcode rows BNE to CLI (30_encoding R100). -/
def opcodeRowsBneCli : List OpcodeRow := [
  ⟨0xD0, .bne, .rel⟩,
  ⟨0x10, .bpl, .rel⟩,
  ⟨0x00, .brk, .single⟩,
  ⟨0x50, .bvc, .rel⟩,
  ⟨0x70, .bvs, .rel⟩,
  ⟨0x18, .clc, .single⟩,
  ⟨0xD8, .cld, .single⟩,
  ⟨0x58, .cli, .single⟩]

/-- The opcode rows CLV to EOR (30_encoding R100). -/
def opcodeRowsClvEor : List OpcodeRow := [
  ⟨0xB8, .clv, .single⟩,
  ⟨0xC9, .cmp, .imm⟩, ⟨0xC5, .cmp, .zp⟩, ⟨0xD5, .cmp, .zpx⟩, ⟨0xCD, .cmp, .abs⟩, ⟨0xDD, .cmp, .absx⟩, ⟨0xD9, .cmp, .absy⟩, ⟨0xC1, .cmp, .indx⟩, ⟨0xD1, .cmp, .indy⟩,
  ⟨0xE0, .cpx, .imm⟩, ⟨0xE4, .cpx, .zp⟩, ⟨0xEC, .cpx, .abs⟩,
  ⟨0xC0, .cpy, .imm⟩, ⟨0xC4, .cpy, .zp⟩, ⟨0xCC, .cpy, .abs⟩,
  ⟨0xC6, .dec, .zp⟩, ⟨0xD6, .dec, .zpx⟩, ⟨0xCE, .dec, .abs⟩, ⟨0xDE, .dec, .absx⟩,
  ⟨0xCA, .dex, .single⟩,
  ⟨0x88, .dey, .single⟩,
  ⟨0x49, .eor, .imm⟩, ⟨0x45, .eor, .zp⟩, ⟨0x55, .eor, .zpx⟩, ⟨0x4D, .eor, .abs⟩, ⟨0x5D, .eor, .absx⟩, ⟨0x59, .eor, .absy⟩, ⟨0x41, .eor, .indx⟩, ⟨0x51, .eor, .indy⟩]

/-- The opcode rows INC to LDY (30_encoding R100). -/
def opcodeRowsIncLdy : List OpcodeRow := [
  ⟨0xE6, .inc, .zp⟩, ⟨0xF6, .inc, .zpx⟩, ⟨0xEE, .inc, .abs⟩, ⟨0xFE, .inc, .absx⟩,
  ⟨0xE8, .inx, .single⟩,
  ⟨0xC8, .iny, .single⟩,
  ⟨0x4C, .jmp, .abs⟩, ⟨0x6C, .jmp, .ind⟩,
  ⟨0x20, .jsr, .abs⟩,
  ⟨0xA9, .lda, .imm⟩, ⟨0xA5, .lda, .zp⟩, ⟨0xB5, .lda, .zpx⟩, ⟨0xAD, .lda, .abs⟩, ⟨0xBD, .lda, .absx⟩, ⟨0xB9, .lda, .absy⟩, ⟨0xA1, .lda, .indx⟩, ⟨0xB1, .lda, .indy⟩,
  ⟨0xA2, .ldx, .imm⟩, ⟨0xA6, .ldx, .zp⟩, ⟨0xB6, .ldx, .zpy⟩, ⟨0xAE, .ldx, .abs⟩, ⟨0xBE, .ldx, .absy⟩,
  ⟨0xA0, .ldy, .imm⟩, ⟨0xA4, .ldy, .zp⟩, ⟨0xB4, .ldy, .zpx⟩, ⟨0xAC, .ldy, .abs⟩, ⟨0xBC, .ldy, .absx⟩]

/-- The opcode rows LSR to ROL (30_encoding R100). -/
def opcodeRowsLsrRol : List OpcodeRow := [
  ⟨0x4A, .lsr, .single⟩, ⟨0x46, .lsr, .zp⟩, ⟨0x56, .lsr, .zpx⟩, ⟨0x4E, .lsr, .abs⟩, ⟨0x5E, .lsr, .absx⟩,
  ⟨0xEA, .nop, .single⟩,
  ⟨0x09, .ora, .imm⟩, ⟨0x05, .ora, .zp⟩, ⟨0x15, .ora, .zpx⟩, ⟨0x0D, .ora, .abs⟩, ⟨0x1D, .ora, .absx⟩, ⟨0x19, .ora, .absy⟩, ⟨0x01, .ora, .indx⟩, ⟨0x11, .ora, .indy⟩,
  ⟨0x48, .pha, .single⟩,
  ⟨0x08, .php, .single⟩,
  ⟨0x68, .pla, .single⟩,
  ⟨0x28, .plp, .single⟩,
  ⟨0x2A, .rol, .single⟩, ⟨0x26, .rol, .zp⟩, ⟨0x36, .rol, .zpx⟩, ⟨0x2E, .rol, .abs⟩, ⟨0x3E, .rol, .absx⟩]

/-- The opcode rows ROR to STA (30_encoding R100). -/
def opcodeRowsRorSta : List OpcodeRow := [
  ⟨0x6A, .ror, .single⟩, ⟨0x66, .ror, .zp⟩, ⟨0x76, .ror, .zpx⟩, ⟨0x6E, .ror, .abs⟩, ⟨0x7E, .ror, .absx⟩,
  ⟨0x40, .rti, .single⟩,
  ⟨0x60, .rts, .single⟩,
  ⟨0xE9, .sbc, .imm⟩, ⟨0xE5, .sbc, .zp⟩, ⟨0xF5, .sbc, .zpx⟩, ⟨0xED, .sbc, .abs⟩, ⟨0xFD, .sbc, .absx⟩, ⟨0xF9, .sbc, .absy⟩, ⟨0xE1, .sbc, .indx⟩, ⟨0xF1, .sbc, .indy⟩,
  ⟨0x38, .sec, .single⟩,
  ⟨0xF8, .sed, .single⟩,
  ⟨0x78, .sei, .single⟩,
  ⟨0x85, .sta, .zp⟩, ⟨0x95, .sta, .zpx⟩, ⟨0x8D, .sta, .abs⟩, ⟨0x9D, .sta, .absx⟩, ⟨0x99, .sta, .absy⟩, ⟨0x81, .sta, .indx⟩, ⟨0x91, .sta, .indy⟩]

/-- The opcode rows STX to TYA (30_encoding R100). -/
def opcodeRowsStxTya : List OpcodeRow := [
  ⟨0x86, .stx, .zp⟩, ⟨0x96, .stx, .zpy⟩, ⟨0x8E, .stx, .abs⟩,
  ⟨0x84, .sty, .zp⟩, ⟨0x94, .sty, .zpx⟩, ⟨0x8C, .sty, .abs⟩,
  ⟨0xAA, .tax, .single⟩,
  ⟨0xA8, .tay, .single⟩,
  ⟨0xBA, .tsx, .single⟩,
  ⟨0x8A, .txa, .single⟩,
  ⟨0x9A, .txs, .single⟩,
  ⟨0x98, .tya, .single⟩]

/-- The opcode table: 151 rows, 56 mnemonics (30_encoding R100). -/
def opcodeTable : List OpcodeRow :=
  opcodeRowsAdcBmi ++ opcodeRowsBneCli ++ opcodeRowsClvEor ++ opcodeRowsIncLdy ++
  opcodeRowsLsrRol ++ opcodeRowsRorSta ++ opcodeRowsStxTya

/-- Dispatch: the row whose opcode is the whole value of the opcode cell, or none when the value is unmapped; a
value above 0xFF matches none (30_encoding R80, R85, R98; D3). -/
def lookupOpcode (n : Nat) : Option OpcodeRow :=
  opcodeTable.find? fun r => r.opcode == n

/-- The opcode of a mnemonic in a mode, where the table has one (30_encoding R100). -/
def opcodeOf (m : Mnemonic) (mode : Mode) : Option Nat :=
  (opcodeTable.find? fun r => r.mnemonic == m && r.mode == mode).map (·.opcode)

/-- The mode of an operand form. -/
def MemOperand.mode : MemOperand → Mode
  | .zp _ => .zp
  | .zpx _ => .zpx
  | .zpy _ => .zpy
  | .abs _ _ => .abs
  | .absx _ _ => .absx
  | .absy _ _ => .absy
  | .indx _ => .indx
  | .indy _ => .indy

/-- The mode of an operand. -/
def Operand.mode : Operand → Mode
  | .single => .single
  | .imm _ => .imm
  | .mem o => o.mode
  | .ind _ _ => .ind
  | .rel _ => .rel

/-- The mnemonic of an instruction. -/
def Instr.mnemonic : Instr → Mnemonic
  | .adcImm .. | .adcZp .. | .adcZpx .. | .adcAbs .. | .adcAbsx .. | .adcAbsy .. | .adcIndx .. | .adcIndy .. => .adc
  | .andImm .. | .andZp .. | .andZpx .. | .andAbs .. | .andAbsx .. | .andAbsy .. | .andIndx .. | .andIndy .. => .and
  | .aslAcc .. | .aslZp .. | .aslZpx .. | .aslAbs .. | .aslAbsx .. => .asl
  | .bcc .. => .bcc
  | .bcs .. => .bcs
  | .beq .. => .beq
  | .bitZp .. | .bitAbs .. => .bit
  | .bmi .. => .bmi
  | .bne .. => .bne
  | .bpl .. => .bpl
  | .brk .. => .brk
  | .bvc .. => .bvc
  | .bvs .. => .bvs
  | .clc .. => .clc
  | .cld .. => .cld
  | .cli .. => .cli
  | .clv .. => .clv
  | .cmpImm .. | .cmpZp .. | .cmpZpx .. | .cmpAbs .. | .cmpAbsx .. | .cmpAbsy .. | .cmpIndx .. | .cmpIndy .. => .cmp
  | .cpxImm .. | .cpxZp .. | .cpxAbs .. => .cpx
  | .cpyImm .. | .cpyZp .. | .cpyAbs .. => .cpy
  | .decZp .. | .decZpx .. | .decAbs .. | .decAbsx .. => .dec
  | .dex .. => .dex
  | .dey .. => .dey
  | .eorImm .. | .eorZp .. | .eorZpx .. | .eorAbs .. | .eorAbsx .. | .eorAbsy .. | .eorIndx .. | .eorIndy .. => .eor
  | .incZp .. | .incZpx .. | .incAbs .. | .incAbsx .. => .inc
  | .inx .. => .inx
  | .iny .. => .iny
  | .jmpAbs .. | .jmpInd .. => .jmp
  | .jsrAbs .. => .jsr
  | .ldaImm .. | .ldaZp .. | .ldaZpx .. | .ldaAbs .. | .ldaAbsx .. | .ldaAbsy .. | .ldaIndx .. | .ldaIndy .. => .lda
  | .ldxImm .. | .ldxZp .. | .ldxZpy .. | .ldxAbs .. | .ldxAbsy .. => .ldx
  | .ldyImm .. | .ldyZp .. | .ldyZpx .. | .ldyAbs .. | .ldyAbsx .. => .ldy
  | .lsrAcc .. | .lsrZp .. | .lsrZpx .. | .lsrAbs .. | .lsrAbsx .. => .lsr
  | .nop .. => .nop
  | .oraImm .. | .oraZp .. | .oraZpx .. | .oraAbs .. | .oraAbsx .. | .oraAbsy .. | .oraIndx .. | .oraIndy .. => .ora
  | .pha .. => .pha
  | .php .. => .php
  | .pla .. => .pla
  | .plp .. => .plp
  | .rolAcc .. | .rolZp .. | .rolZpx .. | .rolAbs .. | .rolAbsx .. => .rol
  | .rorAcc .. | .rorZp .. | .rorZpx .. | .rorAbs .. | .rorAbsx .. => .ror
  | .rti .. => .rti
  | .rts .. => .rts
  | .sbcImm .. | .sbcZp .. | .sbcZpx .. | .sbcAbs .. | .sbcAbsx .. | .sbcAbsy .. | .sbcIndx .. | .sbcIndy .. => .sbc
  | .sec .. => .sec
  | .sed .. => .sed
  | .sei .. => .sei
  | .staZp .. | .staZpx .. | .staAbs .. | .staAbsx .. | .staAbsy .. | .staIndx .. | .staIndy .. => .sta
  | .stxZp .. | .stxZpy .. | .stxAbs .. => .stx
  | .styZp .. | .styZpx .. | .styAbs .. => .sty
  | .tax .. => .tax
  | .tay .. => .tay
  | .tsx .. => .tsx
  | .txa .. => .txa
  | .txs .. => .txs
  | .tya .. => .tya

/-- The operand of an instruction, in the form its row's mode gives it. -/
def Instr.operand : Instr → Operand
  | .aslAcc | .brk | .clc | .cld | .cli | .clv | .dex | .dey | .inx | .iny | .lsrAcc | .nop | .pha | .php
  | .pla | .plp | .rolAcc | .rorAcc | .rti | .rts | .sec | .sed | .sei | .tax | .tay | .tsx | .txa | .txs
  | .tya => .single
  | .adcImm v | .andImm v | .cmpImm v | .cpxImm v | .cpyImm v | .eorImm v | .ldaImm v | .ldxImm v | .ldyImm v
  | .oraImm v | .sbcImm v => .imm v
  | .adcZp z | .andZp z | .aslZp z | .bitZp z | .cmpZp z | .cpxZp z | .cpyZp z | .decZp z | .eorZp z
  | .incZp z | .ldaZp z | .ldxZp z | .ldyZp z | .lsrZp z | .oraZp z | .rolZp z | .rorZp z | .sbcZp z
  | .staZp z | .stxZp z | .styZp z => .mem (.zp z)
  | .adcZpx z | .andZpx z | .aslZpx z | .cmpZpx z | .decZpx z | .eorZpx z | .incZpx z | .ldaZpx z | .ldyZpx z
  | .lsrZpx z | .oraZpx z | .rolZpx z | .rorZpx z | .sbcZpx z | .staZpx z | .styZpx z => .mem (.zpx z)
  | .ldxZpy z | .stxZpy z => .mem (.zpy z)
  | .adcAbs lo hi | .andAbs lo hi | .aslAbs lo hi | .bitAbs lo hi | .cmpAbs lo hi | .cpxAbs lo hi
  | .cpyAbs lo hi | .decAbs lo hi | .eorAbs lo hi | .incAbs lo hi | .jmpAbs lo hi | .jsrAbs lo hi
  | .ldaAbs lo hi | .ldxAbs lo hi | .ldyAbs lo hi | .lsrAbs lo hi | .oraAbs lo hi | .rolAbs lo hi
  | .rorAbs lo hi | .sbcAbs lo hi | .staAbs lo hi | .stxAbs lo hi | .styAbs lo hi => .mem (.abs lo hi)
  | .adcAbsx lo hi | .andAbsx lo hi | .aslAbsx lo hi | .cmpAbsx lo hi | .decAbsx lo hi | .eorAbsx lo hi
  | .incAbsx lo hi | .ldaAbsx lo hi | .ldyAbsx lo hi | .lsrAbsx lo hi | .oraAbsx lo hi | .rolAbsx lo hi
  | .rorAbsx lo hi | .sbcAbsx lo hi | .staAbsx lo hi => .mem (.absx lo hi)
  | .adcAbsy lo hi | .andAbsy lo hi | .cmpAbsy lo hi | .eorAbsy lo hi | .ldaAbsy lo hi | .ldxAbsy lo hi
  | .oraAbsy lo hi | .sbcAbsy lo hi | .staAbsy lo hi => .mem (.absy lo hi)
  | .jmpInd lo hi => .ind lo hi
  | .adcIndx z | .andIndx z | .cmpIndx z | .eorIndx z | .ldaIndx z | .oraIndx z | .sbcIndx z | .staIndx z => .mem (.indx z)
  | .adcIndy z | .andIndy z | .cmpIndy z | .eorIndy z | .ldaIndy z | .oraIndy z | .sbcIndy z | .staIndy z => .mem (.indy z)
  | .bcc d | .bcs d | .beq d | .bmi d | .bne d | .bpl d | .bvc d | .bvs d => .rel d

/-- The instruction of a mnemonic with an operand, where the table has that mnemonic in that mode. -/
def Instr.ofParts : Mnemonic → Operand → Option Instr
  | .adc, .imm v => some (.adcImm v)
  | .adc, .mem (.zp z) => some (.adcZp z)
  | .adc, .mem (.zpx z) => some (.adcZpx z)
  | .adc, .mem (.abs lo hi) => some (.adcAbs lo hi)
  | .adc, .mem (.absx lo hi) => some (.adcAbsx lo hi)
  | .adc, .mem (.absy lo hi) => some (.adcAbsy lo hi)
  | .adc, .mem (.indx z) => some (.adcIndx z)
  | .adc, .mem (.indy z) => some (.adcIndy z)
  | .and, .imm v => some (.andImm v)
  | .and, .mem (.zp z) => some (.andZp z)
  | .and, .mem (.zpx z) => some (.andZpx z)
  | .and, .mem (.abs lo hi) => some (.andAbs lo hi)
  | .and, .mem (.absx lo hi) => some (.andAbsx lo hi)
  | .and, .mem (.absy lo hi) => some (.andAbsy lo hi)
  | .and, .mem (.indx z) => some (.andIndx z)
  | .and, .mem (.indy z) => some (.andIndy z)
  | .asl, .single => some .aslAcc
  | .asl, .mem (.zp z) => some (.aslZp z)
  | .asl, .mem (.zpx z) => some (.aslZpx z)
  | .asl, .mem (.abs lo hi) => some (.aslAbs lo hi)
  | .asl, .mem (.absx lo hi) => some (.aslAbsx lo hi)
  | .bcc, .rel d => some (.bcc d)
  | .bcs, .rel d => some (.bcs d)
  | .beq, .rel d => some (.beq d)
  | .bit, .mem (.zp z) => some (.bitZp z)
  | .bit, .mem (.abs lo hi) => some (.bitAbs lo hi)
  | .bmi, .rel d => some (.bmi d)
  | .bne, .rel d => some (.bne d)
  | .bpl, .rel d => some (.bpl d)
  | .brk, .single => some .brk
  | .bvc, .rel d => some (.bvc d)
  | .bvs, .rel d => some (.bvs d)
  | .clc, .single => some .clc
  | .cld, .single => some .cld
  | .cli, .single => some .cli
  | .clv, .single => some .clv
  | .cmp, .imm v => some (.cmpImm v)
  | .cmp, .mem (.zp z) => some (.cmpZp z)
  | .cmp, .mem (.zpx z) => some (.cmpZpx z)
  | .cmp, .mem (.abs lo hi) => some (.cmpAbs lo hi)
  | .cmp, .mem (.absx lo hi) => some (.cmpAbsx lo hi)
  | .cmp, .mem (.absy lo hi) => some (.cmpAbsy lo hi)
  | .cmp, .mem (.indx z) => some (.cmpIndx z)
  | .cmp, .mem (.indy z) => some (.cmpIndy z)
  | .cpx, .imm v => some (.cpxImm v)
  | .cpx, .mem (.zp z) => some (.cpxZp z)
  | .cpx, .mem (.abs lo hi) => some (.cpxAbs lo hi)
  | .cpy, .imm v => some (.cpyImm v)
  | .cpy, .mem (.zp z) => some (.cpyZp z)
  | .cpy, .mem (.abs lo hi) => some (.cpyAbs lo hi)
  | .dec, .mem (.zp z) => some (.decZp z)
  | .dec, .mem (.zpx z) => some (.decZpx z)
  | .dec, .mem (.abs lo hi) => some (.decAbs lo hi)
  | .dec, .mem (.absx lo hi) => some (.decAbsx lo hi)
  | .dex, .single => some .dex
  | .dey, .single => some .dey
  | .eor, .imm v => some (.eorImm v)
  | .eor, .mem (.zp z) => some (.eorZp z)
  | .eor, .mem (.zpx z) => some (.eorZpx z)
  | .eor, .mem (.abs lo hi) => some (.eorAbs lo hi)
  | .eor, .mem (.absx lo hi) => some (.eorAbsx lo hi)
  | .eor, .mem (.absy lo hi) => some (.eorAbsy lo hi)
  | .eor, .mem (.indx z) => some (.eorIndx z)
  | .eor, .mem (.indy z) => some (.eorIndy z)
  | .inc, .mem (.zp z) => some (.incZp z)
  | .inc, .mem (.zpx z) => some (.incZpx z)
  | .inc, .mem (.abs lo hi) => some (.incAbs lo hi)
  | .inc, .mem (.absx lo hi) => some (.incAbsx lo hi)
  | .inx, .single => some .inx
  | .iny, .single => some .iny
  | .jmp, .mem (.abs lo hi) => some (.jmpAbs lo hi)
  | .jmp, .ind lo hi => some (.jmpInd lo hi)
  | .jsr, .mem (.abs lo hi) => some (.jsrAbs lo hi)
  | .lda, .imm v => some (.ldaImm v)
  | .lda, .mem (.zp z) => some (.ldaZp z)
  | .lda, .mem (.zpx z) => some (.ldaZpx z)
  | .lda, .mem (.abs lo hi) => some (.ldaAbs lo hi)
  | .lda, .mem (.absx lo hi) => some (.ldaAbsx lo hi)
  | .lda, .mem (.absy lo hi) => some (.ldaAbsy lo hi)
  | .lda, .mem (.indx z) => some (.ldaIndx z)
  | .lda, .mem (.indy z) => some (.ldaIndy z)
  | .ldx, .imm v => some (.ldxImm v)
  | .ldx, .mem (.zp z) => some (.ldxZp z)
  | .ldx, .mem (.zpy z) => some (.ldxZpy z)
  | .ldx, .mem (.abs lo hi) => some (.ldxAbs lo hi)
  | .ldx, .mem (.absy lo hi) => some (.ldxAbsy lo hi)
  | .ldy, .imm v => some (.ldyImm v)
  | .ldy, .mem (.zp z) => some (.ldyZp z)
  | .ldy, .mem (.zpx z) => some (.ldyZpx z)
  | .ldy, .mem (.abs lo hi) => some (.ldyAbs lo hi)
  | .ldy, .mem (.absx lo hi) => some (.ldyAbsx lo hi)
  | .lsr, .single => some .lsrAcc
  | .lsr, .mem (.zp z) => some (.lsrZp z)
  | .lsr, .mem (.zpx z) => some (.lsrZpx z)
  | .lsr, .mem (.abs lo hi) => some (.lsrAbs lo hi)
  | .lsr, .mem (.absx lo hi) => some (.lsrAbsx lo hi)
  | .nop, .single => some .nop
  | .ora, .imm v => some (.oraImm v)
  | .ora, .mem (.zp z) => some (.oraZp z)
  | .ora, .mem (.zpx z) => some (.oraZpx z)
  | .ora, .mem (.abs lo hi) => some (.oraAbs lo hi)
  | .ora, .mem (.absx lo hi) => some (.oraAbsx lo hi)
  | .ora, .mem (.absy lo hi) => some (.oraAbsy lo hi)
  | .ora, .mem (.indx z) => some (.oraIndx z)
  | .ora, .mem (.indy z) => some (.oraIndy z)
  | .pha, .single => some .pha
  | .php, .single => some .php
  | .pla, .single => some .pla
  | .plp, .single => some .plp
  | .rol, .single => some .rolAcc
  | .rol, .mem (.zp z) => some (.rolZp z)
  | .rol, .mem (.zpx z) => some (.rolZpx z)
  | .rol, .mem (.abs lo hi) => some (.rolAbs lo hi)
  | .rol, .mem (.absx lo hi) => some (.rolAbsx lo hi)
  | .ror, .single => some .rorAcc
  | .ror, .mem (.zp z) => some (.rorZp z)
  | .ror, .mem (.zpx z) => some (.rorZpx z)
  | .ror, .mem (.abs lo hi) => some (.rorAbs lo hi)
  | .ror, .mem (.absx lo hi) => some (.rorAbsx lo hi)
  | .rti, .single => some .rti
  | .rts, .single => some .rts
  | .sbc, .imm v => some (.sbcImm v)
  | .sbc, .mem (.zp z) => some (.sbcZp z)
  | .sbc, .mem (.zpx z) => some (.sbcZpx z)
  | .sbc, .mem (.abs lo hi) => some (.sbcAbs lo hi)
  | .sbc, .mem (.absx lo hi) => some (.sbcAbsx lo hi)
  | .sbc, .mem (.absy lo hi) => some (.sbcAbsy lo hi)
  | .sbc, .mem (.indx z) => some (.sbcIndx z)
  | .sbc, .mem (.indy z) => some (.sbcIndy z)
  | .sec, .single => some .sec
  | .sed, .single => some .sed
  | .sei, .single => some .sei
  | .sta, .mem (.zp z) => some (.staZp z)
  | .sta, .mem (.zpx z) => some (.staZpx z)
  | .sta, .mem (.abs lo hi) => some (.staAbs lo hi)
  | .sta, .mem (.absx lo hi) => some (.staAbsx lo hi)
  | .sta, .mem (.absy lo hi) => some (.staAbsy lo hi)
  | .sta, .mem (.indx z) => some (.staIndx z)
  | .sta, .mem (.indy z) => some (.staIndy z)
  | .stx, .mem (.zp z) => some (.stxZp z)
  | .stx, .mem (.zpy z) => some (.stxZpy z)
  | .stx, .mem (.abs lo hi) => some (.stxAbs lo hi)
  | .sty, .mem (.zp z) => some (.styZp z)
  | .sty, .mem (.zpx z) => some (.styZpx z)
  | .sty, .mem (.abs lo hi) => some (.styAbs lo hi)
  | .tax, .single => some .tax
  | .tay, .single => some .tay
  | .tsx, .single => some .tsx
  | .txa, .single => some .txa
  | .txs, .single => some .txs
  | .tya, .single => some .tya
  | _, _ => none

/-- The length of an instruction in cells (30_encoding R82). -/
def Instr.length (i : Instr) : Nat := i.operand.mode.length

/-- Why a list of cells is no instruction. -/
inductive DecodeError where
  /-- The opcode cell's value is not in the table (30_encoding R98). -/
  | unknownOpcode (cell : Word)
  /-- The list ends before the instruction does. The engine never meets it: it reads three cells. -/
  | truncated
deriving DecidableEq, Repr

/-- The operand of a mode from the cells after the opcode, and the cells that are left (30_encoding R81). -/
def takeOperand : Mode → List Word → Option (Operand × List Word)
  | .single, cs => some (.single, cs)
  | .imm, v :: cs => some (.imm v, cs)
  | .zp, z :: cs => some (.mem (.zp z), cs)
  | .zpx, z :: cs => some (.mem (.zpx z), cs)
  | .zpy, z :: cs => some (.mem (.zpy z), cs)
  | .abs, lo :: hi :: cs => some (.mem (.abs lo hi), cs)
  | .absx, lo :: hi :: cs => some (.mem (.absx lo hi), cs)
  | .absy, lo :: hi :: cs => some (.mem (.absy lo hi), cs)
  | .ind, lo :: hi :: cs => some (.ind lo hi, cs)
  | .indx, z :: cs => some (.mem (.indx z), cs)
  | .indy, z :: cs => some (.mem (.indy z), cs)
  | .rel, d :: cs => some (.rel d, cs)
  | _, _ => none

/-- Decoding: the instruction at the head of a list of cells and the cells after it, or the reason there is none.
It reads no state and no profile: the same cell value decodes the same way everywhere (30_encoding R102). -/
def decode : List Word → Except DecodeError (Instr × List Word)
  | [] => .error .truncated
  | op :: cs =>
    match lookupOpcode op.toNat with
    | none => .error (.unknownOpcode op)
    | some row =>
      match takeOperand row.mode cs with
      | none => .error .truncated
      | some (operand, rest) =>
        match Instr.ofParts row.mnemonic operand with
        | none => .error (.unknownOpcode op)
        | some i => .ok (i, rest)

/-- The opcode cell of an instruction (30_encoding R100). -/
def Instr.opcode (i : Instr) : Word :=
  BitVec.ofNat 32 ((opcodeOf i.mnemonic i.operand.mode).getD 0)

/-- Encoding: the cells of an instruction, lowest address first (30_encoding R81). -/
def Instr.encode (i : Instr) : List Word :=
  i.opcode :: i.operandCells

/-- The first three cells of `dw` bits of an instruction numbered as the opcode table numbers it: bit 0 is the least
significant bit of the first cell, the next cell's bits count on, and bits above `nbits` are 0 (log 15). -/
def tableCells (w : Width) (nbits n : Nat) : List Word :=
  let v := n % 2 ^ nbits
  [w.cell v, w.cell (v / 2 ^ w.dw), w.cell (v / 2 ^ (2 * w.dw))]

/-- What the decoder reads from an instruction whose bits are `w`, in the profile of `State.reset` (log 15). -/
def decodeTableWord (nbits w : Nat) : Option Instr :=
  match decode (tableCells Config.bootWidth nbits w) with
  | .ok (i, _) => some i
  | .error _ => none

end Sys2Proof
end

