-- ==== Sys2Proof/Machine/State.lean ====
section
/-! DEFINITION. The state of the machine as plain data, the reasons a step can stop, and the state after reset. -/

namespace Sys2Proof.Machine

/-- Why a run halted (60_exceptions R285, R286). -/
inductive HaltReason where
  | brk
  | unknownOpcode
  | unimplementedFeature
  | pcZero
deriving DecidableEq, Repr

/-- The run status (10_state R35). `halted` holds the reason and the address reported with it. -/
inductive RunStatus where
  | ready
  | halted (reason : HaltReason) (pc : Word)
deriving DecidableEq, Repr

/-- Which stack operation wrapped SP (60_exceptions R284). -/
inductive StackOp where
  | push
  | pop
deriving DecidableEq, Repr

/-- The events the core emits to the host (60_exceptions R296). -/
inductive Event where
  | onMemoryWrite (address : Nat) (value : Word)
  | onHalt (pc : Word) (reason : HaltReason)
  | onLabelConflict (line : Nat) (name : Text)
  | onAssembleError (line : Nat) (text : Text)
  /-- `warning(StackWraparound, k)` (60_exceptions R284). -/
  | warning (k : StackOp)
deriving DecidableEq, Repr

/-- The memory cells other than 0xFE: pairs of an address and the cell there, addresses strictly rising, no cell equal to
what an unlisted address reads as (log 3). -/
abbrev Memory := List (Nat × Word)

/-- The state of a configured session. -/
structure State where
  /-- The width profile (00_scope R5). -/
  width : Width
  /-- The parameter ORIGIN (00_scope R7; log 2). -/
  origin : Word
  /-- The accumulator (10_state R21). -/
  a : Word
  /-- The index register X (10_state R21). -/
  x : Word
  /-- The index register Y (10_state R21). -/
  y : Word
  /-- The status register (10_state R27). -/
  p : Word
  /-- The stack pointer (10_state R32). -/
  sp : Word
  /-- The program counter (10_state R24). -/
  pc : Word
  /-- The run status (10_state R35). -/
  status : RunStatus
  /-- Every memory cell but 0xFE (20_memory R50; log 3). -/
  mem : Memory
  /-- Memory cell 0xFE, the random-number device's (20_memory R61; log 4). -/
  randCell : Word
  /-- The label table, in the order of definition (45_assembler R221). -/
  labels : List (Text × Nat)
  /-- The assembler's write address as the last assembly left it (45_assembler R224; log 8). -/
  cursor : Nat
  /-- The number of cells of the current program (45_assembler R242). -/
  codeLength : Nat
  /-- The event trace, NEWEST EVENT FIRST (60_exceptions R296; log 7). -/
  trace : List Event
  /-- The host's run-mode flag (60_exceptions R294; log 9). No step reads it. -/
  running : Bool
  /-- The draws the environment has fixed for the next steps, the next one first (20_memory R61; log 5). -/
  draws : List Byte
  /-- How many draws there have been: the number the next free draw is indexed by (log 5). -/
  drawCount : Nat
deriving DecidableEq, Repr

/-- The reasons a step stops with a fault: none. No access, arithmetic, alignment or privilege error exists
(60_exceptions R280); a runtime error is a halt, which is a next state (log 10). -/
inductive Fault where
deriving DecidableEq, Repr

/-- The reasons a step is refused. -/
inductive Refusal where
  /-- The instruction has no meaning in the model yet. Raised by `exec`, for no instruction. Safe. -/
  | notModelled (mnemonic : String)
  /-- A step while the status is Halted: the spec refuses it (10_state R35, 60_exceptions R291, 93 U16). Raised by
  `step`. Safe. -/
  | halted
deriving DecidableEq, Repr

/-- The state after reset: the launch state of a session (70_reset_and_hazards R310, R315) in the profile
`Config.bootWidth` (log 1). -/
def State.reset : State where
  width := Config.bootWidth
  origin := Config.bootOrigin
  a := 0
  x := 0
  y := 0
  p := 0x30
  sp := 0xFF
  pc := Config.bootOrigin
  status := .ready
  mem := []
  randCell := 0
  labels := []
  cursor := Config.bootOrigin.toNat
  codeLength := 0
  trace := []
  running := false
  draws := []
  drawCount := 0

end Sys2Proof.Machine
end

