-- ==== Sys2Proof/Machine/Memory.lean ====
section
/-! DEFINITION. Memory as a list of cells: reading one cell, writing one cell, and the canonical form (log 3). -/

namespace Sys2Proof.Machine

/-- The address of the random-number cell (20_memory R59, R61). -/
def randAddr : Nat := 0xFE

/-- The address of the keycode cell (20_memory R59, R62). -/
def keyAddr : Nat := 0xFF

/-- What an unlisted address reads as: every cell is 0 at reset (70_reset_and_hazards R312). -/
def Memory.unlisted : Word := 0

/-- The cell at address `a` (20_memory R51). -/
def Memory.read : Memory → Nat → Word
  | [], _ => Memory.unlisted
  | (b, u) :: m, a => if a = b then u else Memory.read m a

/-- The memory with the cell at address `a` set to `v`, in canonical form again. -/
def Memory.write : Memory → Nat → Word → Memory
  | [], a, v => if v = Memory.unlisted then [] else [(a, v)]
  | (b, u) :: m, a, v =>
    if a < b then
      if v = Memory.unlisted then (b, u) :: m else (a, v) :: (b, u) :: m
    else if a = b then
      if v = Memory.unlisted then m else (a, v) :: m
    else
      (b, u) :: Memory.write m a v

/-- The canonical form: addresses strictly rising; each listed cell lies in the address space, is not 0xFE (which
has its own field, log 4), is not what an unlisted address reads as, and holds a cell value of the profile. -/
abbrev Memory.wf (w : Width) (m : Memory) : Prop :=
  m.Pairwise (fun c d => c.1 < d.1) ∧
    ∀ c ∈ m, c.1 < 2 ^ w.aw ∧ c.1 ≠ randAddr ∧ c.2 ≠ Memory.unlisted ∧ w.fits c.2 = true

end Sys2Proof.Machine
end

