-- ==== Sys2Proof/Machine/Ops.lean ====
section
/-! DEFINITION. The named operations over registers, memory, the stack, the event trace and the run status, the
halt (the machine's one form of exception, 60_exceptions R285, R290) and the parts of the instruction cycle around
an instruction's own rule (30_encoding R83). -/

namespace Sys2Proof.Machine

/-! Registers: every write is reduced to the register's width (00_scope R12, 10_state R21, R26). -/

/-- `A <- v` (10_state R21). -/
def State.setA (s : State) (v : Word) : State := { s with a := s.width.cell v.toNat }

/-- `X <- v` (10_state R21). -/
def State.setX (s : State) (v : Word) : State := { s with x := s.width.cell v.toNat }

/-- `Y <- v` (10_state R21). -/
def State.setY (s : State) (v : Word) : State := { s with y := s.width.cell v.toNat }

/-- `P <- v` (10_state R27). -/
def State.setP (s : State) (v : Word) : State := { s with p := s.width.cell v.toNat }

/-- `SP <- v` (10_state R32). -/
def State.setSp (s : State) (v : Word) : State := { s with sp := s.width.cell v.toNat }

/-- `PC <- n`, reduced modulo `2^aw` (10_state R26). -/
def State.setPc (s : State) (n : Nat) : State :=
  { s with pc := s.width.addrWord n }

/-! The event trace and memory. -/

/-- `emit e` (60_exceptions R296). -/
def State.emit (s : State) (e : Event) : State := { s with trace := e :: s.trace }

/-- `MemRead(a, 1)`: no side effect (20_memory R51). -/
def State.read (s : State) (a : Nat) : Word :=
  if a = randAddr then s.randCell else s.mem.read a

/-- The cell at `a` set to `v AND DM`, without an event: the first half of the store (20_memory R52). -/
def State.poke (s : State) (a : Nat) (v : Word) : State :=
  if a = randAddr then { s with randCell := s.width.cell v.toNat }
  else { s with mem := s.mem.write a (s.width.cell v.toNat) }

/-- `MemWrite(a, 1, v)`: mask, write the cell, emit the write-observer event (20_memory R52). -/
def State.store (s : State) (a : Nat) (v : Word) : State :=
  (s.poke a v).emit (.onMemoryWrite a (s.width.cell v.toNat))

/-- `ReadWord(a)`: two cells, the second at `(a + 1) AND AM` (20_memory R54). -/
def State.readWord (s : State) (a : Nat) : Nat :=
  s.width.word (s.read a) (s.read (s.width.addr (a + 1)))

/-! The stack. -/

/-- The address of the stack cell SP names (10_state R32). -/
def State.stackAddr (s : State) : Nat := s.width.stackBase + s.sp.toNat

/-- `Push(v)`: write, then decrement SP; at SP = 0 it wraps to DM and warns (10_state R33). -/
def State.push (s : State) (v : Word) : State :=
  let s' := s.store s.stackAddr v
  if s.sp = 0 then (s'.setSp (s.width.cell s.width.dataMask)).emit (.warning .push)
  else s'.setSp (s.sp - 1)

/-- The SP half of `Pop()`: increment; at SP = DM it wraps to 0 and warns (10_state R34). -/
def State.popAdvance (s : State) : State :=
  if s.sp.toNat = s.width.dataMask then (s.setSp 0).emit (.warning .pop)
  else s.setSp (s.sp + 1)

/-- `Pop()`: the popped cell and the state after it; the increment comes before the read (10_state R34). -/
def State.pop (s : State) : Word × State :=
  (s.popAdvance.read s.popAdvance.stackAddr, s.popAdvance)

/-! The halt: no trap entry, nothing saved, no vector (60_exceptions R285, R290). -/

/-- `halt(reason, pc)` (60_exceptions R285). -/
def State.halt (s : State) (reason : HaltReason) (pc : Word) : State :=
  { s with status := .halted reason pc }.emit (.onHalt pc reason)

/-- The address of the opcode cell of a one-cell instruction that has been fetched: `PC - 1` (10_state R25). -/
def State.opcodeAddr (s : State) : Word :=
  s.width.addrWord (s.pc.toNat + s.width.addrMask)

/-! The instruction cycle around an instruction's own rule (30_encoding R83). -/

/-- The environment's draw for this step: the one it has fixed, or a free value (20_memory R61; log 5). -/
def State.draw (s : State) : Byte :=
  match s.draws with
  | [] => Config.freeDraw s.drawCount
  | r :: _ => r

/-- The refresh of cell 0xFE at the start of every step (20_memory R61). -/
def State.refresh (s : State) : State :=
  { s.store randAddr (s.draw.setWidth 32) with draws := s.draws.tail, drawCount := s.drawCount + 1 }

/-- `PC` past `n` fetched cells; a fetch that crosses AM continues at 0 (30_encoding R84). -/
def State.advance (s : State) (n : Nat) : State := s.setPc (s.pc.toNat + n)

/-- The three cells from PC on, as many as the longest instruction has; a read has no effect (30_encoding R84,
20_memory R51). -/
def State.fetchCells (s : State) : List Word :=
  [s.read s.pc.toNat, s.read (s.width.addr (s.pc.toNat + 1)), s.read (s.width.addr (s.pc.toNat + 2))]

/-- The step of an unmapped opcode cell: PC past the cell, then the halt that reports its address
(30_encoding R98, 60_exceptions R282). -/
def State.unknownOpcode (s : State) : State := (s.advance 1).halt .unknownOpcode s.pc

/-- The check at the end of a step: still Ready and PC = 0 halts (30_encoding R83, 60_exceptions R286). -/
def State.pcZeroCheck (s : State) : State :=
  if s.status = .ready ∧ s.pc = 0 then s.halt .pcZero 0 else s

/-- The state with a program's cells placed from PC on without events, and Ready: how a program is loaded from
outside the machine (log 14). -/
def State.placeAtPc (s : State) (cells : List Word) : State :=
  let s' := cells.zipIdx.foldl (fun t c => t.poke (s.width.addr (s.pc.toNat + c.2)) c.1) s
  { s' with status := .ready }

/-! Reset. -/

/-- `reset()`: registers, memory and status; the profile, the label table, `codeLength` and the trace stay, and no
event is emitted (70_reset_and_hazards R310 to R313; the cursor: log 8). -/
def State.doReset (s : State) : State :=
  { s with
    a := 0, x := 0, y := 0, sp := 0xFF, p := 0x30
    pc := s.width.addrWord s.origin.toNat
    mem := [], randCell := 0
    status := .ready
    cursor := s.origin.toNat }

end Sys2Proof.Machine
end

