-- ==== Sys2Proof/Machine/Flags.lean ====
section
/-! DEFINITION. The flags of P, `SetNZ`, and every flag computation: binary and decimal addition and subtraction,
compares, shifts and rotates (10_state R27 to R31, 41_arithmetic_logic, 42_inc_dec_shift). -/

namespace Sys2Proof.Machine

/-! The flags (10_state R27). -/

/-- `P.C`, bit 0. -/
def State.flagC (s : State) : Bool := s.p.getLsbD 0
/-- `P.Z`, bit 1. -/
def State.flagZ (s : State) : Bool := s.p.getLsbD 1
/-- `P.I`, bit 2. -/
def State.flagI (s : State) : Bool := s.p.getLsbD 2
/-- `P.D`, bit 3. -/
def State.flagD (s : State) : Bool := s.p.getLsbD 3
/-- `P.B`, bit 4. -/
def State.flagB (s : State) : Bool := s.p.getLsbD 4
/-- The unused bit 5 of P. -/
def State.flagUnused (s : State) : Bool := s.p.getLsbD 5
/-- `P.V`, bit `dw-2`. -/
def State.flagV (s : State) : Bool := s.p.getLsbD (s.width.dw - 2)
/-- `P.N`, bit `dw-1`. -/
def State.flagN (s : State) : Bool := s.p.getLsbD (s.width.dw - 1)

/-- `P.F <- b` for the flag at bit `k`: no other bit changes (10_state R28). -/
def State.setFlag (s : State) (k : Nat) (b : Bool) : State := s.setP (Word.setBit s.p k b)

/-- `P.C <- b`. -/
def State.setC (s : State) (b : Bool) : State := s.setFlag 0 b
/-- `P.Z <- b`. -/
def State.setZ (s : State) (b : Bool) : State := s.setFlag 1 b
/-- `P.D <- b`. -/
def State.setD (s : State) (b : Bool) : State := s.setFlag 3 b
/-- `P.V <- b`. -/
def State.setV (s : State) (b : Bool) : State := s.setFlag (s.width.dw - 2) b
/-- `P.N <- b`. -/
def State.setN (s : State) (b : Bool) : State := s.setFlag (s.width.dw - 1) b

/-- `SetNZ(v)` (10_state R30). -/
def State.setNZ (s : State) (v : Word) : State := (s.setZ (v == 0)).setN (s.width.msb v)

/-- `v OR 0x30`: B and bit 5 set, as PHP pushes P and PLP and RTI load it (10_state R29). -/
def withB (v : Word) : Word := v ||| 0x30

/-! Addition and subtraction (41_arithmetic_logic). -/

/-- The result of an addition or a subtraction: the value for A, and the carry and overflow flags. -/
structure AluResult where
  value : Word
  carry : Bool
  overflow : Bool
deriving DecidableEq, Repr

/-- AddBinary (41_arithmetic_logic R141). -/
def addBinary (w : Width) (a m : Word) (c : Bool) : AluResult :=
  let v := decide ((a ^^^ m).toNat &&& w.signBit = 0)
  let t := a.toNat + m.toNat + bitNat c
  { value := w.cell t
    carry := decide (t ≥ 2 ^ w.dw)
    overflow :=
      if t ≥ 2 ^ w.dw then v && !decide (t ≥ 2 ^ w.dw + w.signBit)
      else v && !decide (t < w.signBit) }

/-- SubBinary (41_arithmetic_logic R145). -/
def subBinary (w : Width) (a m : Word) (c : Bool) : AluResult :=
  let v := decide ((a ^^^ m).toNat &&& w.signBit ≠ 0)
  let t := w.dataMask + a.toNat - m.toNat + bitNat c
  { value := w.cell t
    carry := decide (t ≥ 2 ^ w.dw)
    overflow :=
      if t < 2 ^ w.dw then v && !decide (t < w.signBit)
      else v && !decide (t ≥ 2 ^ w.dw + w.signBit) }

/-- AddDecimal8: BCD addition at dw = 8 (41_arithmetic_logic R143). -/
def addDecimal8 (a m : Word) (c : Bool) : AluResult :=
  let v := decide ((a ^^^ m).toNat &&& 0x80 = 0)
  let lo0 := (a.toNat &&& 0x0F) + (m.toNat &&& 0x0F) + bitNat c
  let lo := if lo0 ≥ 10 then 0x10 ||| ((lo0 + 6) &&& 0x0F) else lo0
  let t := lo + (a.toNat &&& 0xF0) + (m.toNat &&& 0xF0)
  if t ≥ 160 then
    { value := Width.cell .w8 (t + 0x60), carry := true, overflow := v && !decide (t ≥ 0x180) }
  else
    { value := Width.cell .w8 t, carry := false, overflow := v && !decide (t < 0x80) }

/-- SubDecimal8: BCD subtraction at dw = 8, over the integers (41_arithmetic_logic R146). -/
def subDecimal8 (a m : Word) (c : Bool) : AluResult :=
  let v := decide ((a ^^^ m).toNat &&& 0x80 ≠ 0)
  let lo0 : Int := 0x0F + (a.toNat &&& 0x0F : Nat) - (m.toNat &&& 0x0F : Nat) + bitNat c
  let lo : Int := if lo0 < 0x10 then lo0 - 6 else lo0 - 0x10
  let w0 : Int := if lo0 < 0x10 then 0 else 0x10
  let w1 : Int := w0 + 0xF0 + (a.toNat &&& 0xF0 : Nat) - (m.toNat &&& 0xF0 : Nat)
  if w1 < 0x100 then
    { value := Width.cellInt .w8 (w1 - 0x60 + lo), carry := false, overflow := v && !decide (w1 < 0x80) }
  else
    { value := Width.cellInt .w8 (w1 + lo), carry := true, overflow := v && !decide (w1 ≥ 0x180) }

/-- WideDecimal: decimal ADC and SBC at dw = 16 and 32, by the open parameter (41_arithmetic_logic R147; log 6). -/
def wideDecimalResult (w : Width) (op : DecimalOp) (a m : Word) (c v : Bool) : AluResult :=
  let r := Config.wideDecimal w op a m c v
  { value := w.cell r.1.toNat, carry := r.2.1, overflow := r.2.2 }

/-- The result of ADC: binary, 8-bit decimal or wide decimal (41_arithmetic_logic R140). -/
def State.adcResult (s : State) (m : Word) : AluResult :=
  if s.flagD = false then addBinary s.width s.a m s.flagC
  else if s.width = .w8 then addDecimal8 s.a m s.flagC
  else wideDecimalResult s.width .add s.a m s.flagC s.flagV

/-- The result of SBC: binary, 8-bit decimal or wide decimal (41_arithmetic_logic R144). -/
def State.sbcResult (s : State) (m : Word) : AluResult :=
  if s.flagD = false then subBinary s.width s.a m s.flagC
  else if s.width = .w8 then subDecimal8 s.a m s.flagC
  else wideDecimalResult s.width .sub s.a m s.flagC s.flagV

/-- `P.C`, `P.V`, then `A`, then `SetNZ(A)`: how every ADC and SBC ends (41_arithmetic_logic R141, R143, R145 to R147). -/
def State.applyAlu (s : State) (r : AluResult) : State :=
  (((s.setC r.carry).setV r.overflow).setA r.value).setNZ r.value

/-- Compare(r, m), shared by CMP, CPX and CPY: no register changes (41_arithmetic_logic R151). -/
def State.compare (s : State) (r m : Word) : State :=
  (s.setC (decide (r.toNat ≥ m.toNat))).setNZ (s.width.cellInt ((r.toNat : Int) - m.toNat))

/-! Shifts and rotates: the result and the new carry, from the operand and the old carry (42_inc_dec_shift). -/

/-- ASL (42_inc_dec_shift R166). -/
def aslResult (w : Width) (m : Word) (_c : Bool) : Word × Bool :=
  (w.cell (m.toNat * 2), w.msb m)

/-- LSR (42_inc_dec_shift R167). -/
def lsrResult (w : Width) (m : Word) (_c : Bool) : Word × Bool :=
  (w.cell (m.toNat / 2), m.getLsbD 0)

/-- ROL (42_inc_dec_shift R168). -/
def rolResult (w : Width) (m : Word) (c : Bool) : Word × Bool :=
  (w.cell (m.toNat * 2) ||| w.cell (bitNat c), w.msb m)

/-- ROR (42_inc_dec_shift R169). -/
def rorResult (w : Width) (m : Word) (c : Bool) : Word × Bool :=
  (w.cell (m.toNat / 2) ||| w.cell (bitNat c * w.signBit), m.getLsbD 0)

end Sys2Proof.Machine
end

