-- ==== Sys2Proof/Machine/Operands.lean ====
section
/-! DEFINITION. Operand resolution: the effective address of every memory addressing mode, and the operand read
through it (30_encoding R86 to R97). An immediate operand is the operand cell itself (R86). -/

namespace Sys2Proof.Machine

/-- The effective address of a memory operand (30_encoding R87 to R92, R94, R95). Zero-page forms wrap at DM,
absolute forms at AM, and a pointer's second cell is at `(p + 1) AND AM` (D7, D8). -/
def State.ea (s : State) : MemOperand → Nat
  | .zp z => z.toNat
  | .zpx z => (s.width.cell (z.toNat + s.x.toNat)).toNat
  | .zpy z => (s.width.cell (z.toNat + s.y.toNat)).toNat
  | .abs lo hi => s.width.word lo hi
  | .absx lo hi => s.width.addr (s.width.word lo hi + s.x.toNat)
  | .absy lo hi => s.width.addr (s.width.word lo hi + s.y.toNat)
  | .indx z => s.readWord (s.width.cell (z.toNat + s.x.toNat)).toNat
  | .indy z => s.width.addr (s.readWord z.toNat + s.y.toNat)

/-- `m <- operand` for a memory mode (40_load_store_transfer, template). -/
def State.load (s : State) (o : MemOperand) : Word := s.read (s.ea o)

/-- The value of an operand that is read: the immediate cell, or the cell at the effective address (30_encoding R86
to R95); none for the forms that read no operand value. -/
def State.operandValue (s : State) : Operand → Option Word
  | .imm v => some v
  | .mem o => some (s.load o)
  | .single | .ind _ _ | .rel _ => none

/-- The target of JMP (abs): the word the pointer names (30_encoding R93). -/
def State.indirectTarget (s : State) (lo hi : Word) : Nat := s.readWord (s.width.word lo hi)

end Sys2Proof.Machine
end

