-- ==== Sys2Proof/Machine/Arith.lean ====
section
/-! DEFINITION. Arithmetic, logic, compares and the bit test (41_arithmetic_logic).
One meaning per opcode row, over shared operations. -/

namespace Sys2Proof.Machine

/-- ADC (41_arithmetic_logic R140). -/
def adc (s : State) (m : Word) : State := s.applyAlu (s.adcResult m)

/-- ADC #v, opcode 69 (41_arithmetic_logic R140, 30_encoding R86). -/
def execAdcImm (v : Word) (s : State) : Host.Outcome State Fault Refusal :=
  .next (adc s v)

/-- ADC $zz, opcode 65 (41_arithmetic_logic R140, 30_encoding R87). -/
def execAdcZp (z : Word) (s : State) : Host.Outcome State Fault Refusal :=
  .next (adc s (s.load (.zp z)))

/-- ADC $zz,X, opcode 75 (41_arithmetic_logic R140, 30_encoding R88). -/
def execAdcZpx (z : Word) (s : State) : Host.Outcome State Fault Refusal :=
  .next (adc s (s.load (.zpx z)))

/-- ADC $aaaa, opcode 6D (41_arithmetic_logic R140, 30_encoding R90). -/
def execAdcAbs (lo hi : Word) (s : State) : Host.Outcome State Fault Refusal :=
  .next (adc s (s.load (.abs lo hi)))

/-- ADC $aaaa,X, opcode 7D (41_arithmetic_logic R140, 30_encoding R91). -/
def execAdcAbsx (lo hi : Word) (s : State) : Host.Outcome State Fault Refusal :=
  .next (adc s (s.load (.absx lo hi)))

/-- ADC $aaaa,Y, opcode 79 (41_arithmetic_logic R140, 30_encoding R92). -/
def execAdcAbsy (lo hi : Word) (s : State) : Host.Outcome State Fault Refusal :=
  .next (adc s (s.load (.absy lo hi)))

/-- ADC ($zz,X), opcode 61 (41_arithmetic_logic R140, 30_encoding R94). -/
def execAdcIndx (z : Word) (s : State) : Host.Outcome State Fault Refusal :=
  .next (adc s (s.load (.indx z)))

/-- ADC ($zz),Y, opcode 71 (41_arithmetic_logic R140, 30_encoding R95). -/
def execAdcIndy (z : Word) (s : State) : Host.Outcome State Fault Refusal :=
  .next (adc s (s.load (.indy z)))

/-- SBC (41_arithmetic_logic R144). -/
def sbc (s : State) (m : Word) : State := s.applyAlu (s.sbcResult m)

/-- SBC #v, opcode E9 (41_arithmetic_logic R144, 30_encoding R86). -/
def execSbcImm (v : Word) (s : State) : Host.Outcome State Fault Refusal :=
  .next (sbc s v)

/-- SBC $zz, opcode E5 (41_arithmetic_logic R144, 30_encoding R87). -/
def execSbcZp (z : Word) (s : State) : Host.Outcome State Fault Refusal :=
  .next (sbc s (s.load (.zp z)))

/-- SBC $zz,X, opcode F5 (41_arithmetic_logic R144, 30_encoding R88). -/
def execSbcZpx (z : Word) (s : State) : Host.Outcome State Fault Refusal :=
  .next (sbc s (s.load (.zpx z)))

/-- SBC $aaaa, opcode ED (41_arithmetic_logic R144, 30_encoding R90). -/
def execSbcAbs (lo hi : Word) (s : State) : Host.Outcome State Fault Refusal :=
  .next (sbc s (s.load (.abs lo hi)))

/-- SBC $aaaa,X, opcode FD (41_arithmetic_logic R144, 30_encoding R91). -/
def execSbcAbsx (lo hi : Word) (s : State) : Host.Outcome State Fault Refusal :=
  .next (sbc s (s.load (.absx lo hi)))

/-- SBC $aaaa,Y, opcode F9 (41_arithmetic_logic R144, 30_encoding R92). -/
def execSbcAbsy (lo hi : Word) (s : State) : Host.Outcome State Fault Refusal :=
  .next (sbc s (s.load (.absy lo hi)))

/-- SBC ($zz,X), opcode E1 (41_arithmetic_logic R144, 30_encoding R94). -/
def execSbcIndx (z : Word) (s : State) : Host.Outcome State Fault Refusal :=
  .next (sbc s (s.load (.indx z)))

/-- SBC ($zz),Y, opcode F1 (41_arithmetic_logic R144, 30_encoding R95). -/
def execSbcIndy (z : Word) (s : State) : Host.Outcome State Fault Refusal :=
  .next (sbc s (s.load (.indy z)))

/-- AND: `A <- A AND m; SetNZ(A)` (41_arithmetic_logic R148). -/
def land (s : State) (m : Word) : State := (s.setA (s.a &&& m)).setNZ (s.a &&& m)

/-- AND #v, opcode 29 (41_arithmetic_logic R148, 30_encoding R86). -/
def execAndImm (v : Word) (s : State) : Host.Outcome State Fault Refusal :=
  .next (land s v)

/-- AND $zz, opcode 25 (41_arithmetic_logic R148, 30_encoding R87). -/
def execAndZp (z : Word) (s : State) : Host.Outcome State Fault Refusal :=
  .next (land s (s.load (.zp z)))

/-- AND $zz,X, opcode 35 (41_arithmetic_logic R148, 30_encoding R88). -/
def execAndZpx (z : Word) (s : State) : Host.Outcome State Fault Refusal :=
  .next (land s (s.load (.zpx z)))

/-- AND $aaaa, opcode 2D (41_arithmetic_logic R148, 30_encoding R90). -/
def execAndAbs (lo hi : Word) (s : State) : Host.Outcome State Fault Refusal :=
  .next (land s (s.load (.abs lo hi)))

/-- AND $aaaa,X, opcode 3D (41_arithmetic_logic R148, 30_encoding R91). -/
def execAndAbsx (lo hi : Word) (s : State) : Host.Outcome State Fault Refusal :=
  .next (land s (s.load (.absx lo hi)))

/-- AND $aaaa,Y, opcode 39 (41_arithmetic_logic R148, 30_encoding R92). -/
def execAndAbsy (lo hi : Word) (s : State) : Host.Outcome State Fault Refusal :=
  .next (land s (s.load (.absy lo hi)))

/-- AND ($zz,X), opcode 21 (41_arithmetic_logic R148, 30_encoding R94). -/
def execAndIndx (z : Word) (s : State) : Host.Outcome State Fault Refusal :=
  .next (land s (s.load (.indx z)))

/-- AND ($zz),Y, opcode 31 (41_arithmetic_logic R148, 30_encoding R95). -/
def execAndIndy (z : Word) (s : State) : Host.Outcome State Fault Refusal :=
  .next (land s (s.load (.indy z)))

/-- ORA: `A <- A OR m; SetNZ(A)` (41_arithmetic_logic R149). -/
def lora (s : State) (m : Word) : State := (s.setA (s.a ||| m)).setNZ (s.a ||| m)

/-- ORA #v, opcode 09 (41_arithmetic_logic R149, 30_encoding R86). -/
def execOraImm (v : Word) (s : State) : Host.Outcome State Fault Refusal :=
  .next (lora s v)

/-- ORA $zz, opcode 05 (41_arithmetic_logic R149, 30_encoding R87). -/
def execOraZp (z : Word) (s : State) : Host.Outcome State Fault Refusal :=
  .next (lora s (s.load (.zp z)))

/-- ORA $zz,X, opcode 15 (41_arithmetic_logic R149, 30_encoding R88). -/
def execOraZpx (z : Word) (s : State) : Host.Outcome State Fault Refusal :=
  .next (lora s (s.load (.zpx z)))

/-- ORA $aaaa, opcode 0D (41_arithmetic_logic R149, 30_encoding R90). -/
def execOraAbs (lo hi : Word) (s : State) : Host.Outcome State Fault Refusal :=
  .next (lora s (s.load (.abs lo hi)))

/-- ORA $aaaa,X, opcode 1D (41_arithmetic_logic R149, 30_encoding R91). -/
def execOraAbsx (lo hi : Word) (s : State) : Host.Outcome State Fault Refusal :=
  .next (lora s (s.load (.absx lo hi)))

/-- ORA $aaaa,Y, opcode 19 (41_arithmetic_logic R149, 30_encoding R92). -/
def execOraAbsy (lo hi : Word) (s : State) : Host.Outcome State Fault Refusal :=
  .next (lora s (s.load (.absy lo hi)))

/-- ORA ($zz,X), opcode 01 (41_arithmetic_logic R149, 30_encoding R94). -/
def execOraIndx (z : Word) (s : State) : Host.Outcome State Fault Refusal :=
  .next (lora s (s.load (.indx z)))

/-- ORA ($zz),Y, opcode 11 (41_arithmetic_logic R149, 30_encoding R95). -/
def execOraIndy (z : Word) (s : State) : Host.Outcome State Fault Refusal :=
  .next (lora s (s.load (.indy z)))

/-- EOR: `A <- A XOR m; SetNZ(A)` (41_arithmetic_logic R150). -/
def leor (s : State) (m : Word) : State := (s.setA (s.a ^^^ m)).setNZ (s.a ^^^ m)

/-- EOR #v, opcode 49 (41_arithmetic_logic R150, 30_encoding R86). -/
def execEorImm (v : Word) (s : State) : Host.Outcome State Fault Refusal :=
  .next (leor s v)

/-- EOR $zz, opcode 45 (41_arithmetic_logic R150, 30_encoding R87). -/
def execEorZp (z : Word) (s : State) : Host.Outcome State Fault Refusal :=
  .next (leor s (s.load (.zp z)))

/-- EOR $zz,X, opcode 55 (41_arithmetic_logic R150, 30_encoding R88). -/
def execEorZpx (z : Word) (s : State) : Host.Outcome State Fault Refusal :=
  .next (leor s (s.load (.zpx z)))

/-- EOR $aaaa, opcode 4D (41_arithmetic_logic R150, 30_encoding R90). -/
def execEorAbs (lo hi : Word) (s : State) : Host.Outcome State Fault Refusal :=
  .next (leor s (s.load (.abs lo hi)))

/-- EOR $aaaa,X, opcode 5D (41_arithmetic_logic R150, 30_encoding R91). -/
def execEorAbsx (lo hi : Word) (s : State) : Host.Outcome State Fault Refusal :=
  .next (leor s (s.load (.absx lo hi)))

/-- EOR $aaaa,Y, opcode 59 (41_arithmetic_logic R150, 30_encoding R92). -/
def execEorAbsy (lo hi : Word) (s : State) : Host.Outcome State Fault Refusal :=
  .next (leor s (s.load (.absy lo hi)))

/-- EOR ($zz,X), opcode 41 (41_arithmetic_logic R150, 30_encoding R94). -/
def execEorIndx (z : Word) (s : State) : Host.Outcome State Fault Refusal :=
  .next (leor s (s.load (.indx z)))

/-- EOR ($zz),Y, opcode 51 (41_arithmetic_logic R150, 30_encoding R95). -/
def execEorIndy (z : Word) (s : State) : Host.Outcome State Fault Refusal :=
  .next (leor s (s.load (.indy z)))

/-- CMP #v, opcode C9 (41_arithmetic_logic R152, 30_encoding R86). -/
def execCmpImm (v : Word) (s : State) : Host.Outcome State Fault Refusal :=
  .next (s.compare s.a v)

/-- CMP $zz, opcode C5 (41_arithmetic_logic R152, 30_encoding R87). -/
def execCmpZp (z : Word) (s : State) : Host.Outcome State Fault Refusal :=
  .next (s.compare s.a (s.load (.zp z)))

/-- CMP $zz,X, opcode D5 (41_arithmetic_logic R152, 30_encoding R88). -/
def execCmpZpx (z : Word) (s : State) : Host.Outcome State Fault Refusal :=
  .next (s.compare s.a (s.load (.zpx z)))

/-- CMP $aaaa, opcode CD (41_arithmetic_logic R152, 30_encoding R90). -/
def execCmpAbs (lo hi : Word) (s : State) : Host.Outcome State Fault Refusal :=
  .next (s.compare s.a (s.load (.abs lo hi)))

/-- CMP $aaaa,X, opcode DD (41_arithmetic_logic R152, 30_encoding R91). -/
def execCmpAbsx (lo hi : Word) (s : State) : Host.Outcome State Fault Refusal :=
  .next (s.compare s.a (s.load (.absx lo hi)))

/-- CMP $aaaa,Y, opcode D9 (41_arithmetic_logic R152, 30_encoding R92). -/
def execCmpAbsy (lo hi : Word) (s : State) : Host.Outcome State Fault Refusal :=
  .next (s.compare s.a (s.load (.absy lo hi)))

/-- CMP ($zz,X), opcode C1 (41_arithmetic_logic R152, 30_encoding R94). -/
def execCmpIndx (z : Word) (s : State) : Host.Outcome State Fault Refusal :=
  .next (s.compare s.a (s.load (.indx z)))

/-- CMP ($zz),Y, opcode D1 (41_arithmetic_logic R152, 30_encoding R95). -/
def execCmpIndy (z : Word) (s : State) : Host.Outcome State Fault Refusal :=
  .next (s.compare s.a (s.load (.indy z)))

/-- CPX #v, opcode E0 (41_arithmetic_logic R153, 30_encoding R86). -/
def execCpxImm (v : Word) (s : State) : Host.Outcome State Fault Refusal :=
  .next (s.compare s.x v)

/-- CPX $zz, opcode E4 (41_arithmetic_logic R153, 30_encoding R87). -/
def execCpxZp (z : Word) (s : State) : Host.Outcome State Fault Refusal :=
  .next (s.compare s.x (s.load (.zp z)))

/-- CPX $aaaa, opcode EC (41_arithmetic_logic R153, 30_encoding R90). -/
def execCpxAbs (lo hi : Word) (s : State) : Host.Outcome State Fault Refusal :=
  .next (s.compare s.x (s.load (.abs lo hi)))

/-- CPY #v, opcode C0 (41_arithmetic_logic R154, 30_encoding R86). -/
def execCpyImm (v : Word) (s : State) : Host.Outcome State Fault Refusal :=
  .next (s.compare s.y v)

/-- CPY $zz, opcode C4 (41_arithmetic_logic R154, 30_encoding R87). -/
def execCpyZp (z : Word) (s : State) : Host.Outcome State Fault Refusal :=
  .next (s.compare s.y (s.load (.zp z)))

/-- CPY $aaaa, opcode CC (41_arithmetic_logic R154, 30_encoding R90). -/
def execCpyAbs (lo hi : Word) (s : State) : Host.Outcome State Fault Refusal :=
  .next (s.compare s.y (s.load (.abs lo hi)))

/-- BIT: N and V from the operand, Z from `A AND m`; A is unchanged (41_arithmetic_logic R155). -/
def bitTest (s : State) (m : Word) : State :=
  ((s.setN (s.width.msb m)).setV (s.width.msb2 m)).setZ (s.a &&& m == 0)

/-- BIT $zz, opcode 24 (41_arithmetic_logic R155, 30_encoding R87). -/
def execBitZp (z : Word) (s : State) : Host.Outcome State Fault Refusal :=
  .next (bitTest s (s.load (.zp z)))

/-- BIT $aaaa, opcode 2C (41_arithmetic_logic R155, 30_encoding R90). -/
def execBitAbs (lo hi : Word) (s : State) : Host.Outcome State Fault Refusal :=
  .next (bitTest s (s.load (.abs lo hi)))

end Sys2Proof.Machine
end

