-- ==== Sys2Proof/Machine/Control.lean ====
section
/-! DEFINITION. Jumps, subroutines, branches, BRK and NOP (43_control). An instruction runs with PC past its last cell (10_state R25).
One meaning per opcode row, over shared operations. -/

namespace Sys2Proof.Machine

/-- JMP $aaaa, opcode 4C (43_control R180, 30_encoding R90). -/
def execJmpAbs (lo hi : Word) (s : State) : Host.Outcome State Fault Refusal :=
  .next (s.setPc (s.width.word lo hi))

/-- JMP ($aaaa) or (label), opcode 6C (43_control R180, 30_encoding R93). -/
def execJmpInd (lo hi : Word) (s : State) : Host.Outcome State Fault Refusal :=
  .next (s.setPc (s.indirectTarget lo hi))

/-- The address JSR stacks, `(PC - 1) AND AM`: that of its own last cell (43_control R181). -/
def State.jsrReturn (s : State) : Nat := s.width.addr (s.pc.toNat + s.width.addrMask)

/-- JSR: push the return address, high limb first, then jump (43_control R181). -/
def jsr (s : State) (target : Nat) : State :=
  ((s.push (s.width.hi s.jsrReturn)).push (s.width.lo s.jsrReturn)).setPc target

/-- JSR $aaaa, opcode 20 (43_control R181, 30_encoding R90). -/
def execJsrAbs (lo hi : Word) (s : State) : Host.Outcome State Fault Refusal :=
  .next (jsr s (s.width.word lo hi))

/-- RTS: pop the low limb, then the high limb, and continue at their word plus 1 (43_control R182). -/
def rts (s : State) : State :=
  let l := s.pop
  let h := l.2.pop
  h.2.setPc (s.width.word l.1 h.1 + 1)

/-- RTS, opcode 60 (43_control R182, 30_encoding R97). -/
def execRts (s : State) : Host.Outcome State Fault Refusal :=
  .next (rts s)

/-- RTI: pop P with B and bit 5 forced to 1, then the low and the high limb; nothing is added (43_control R183). -/
def rti (s : State) : State :=
  let f := s.pop
  let l := (f.2.setP (withB f.1)).pop
  let h := l.2.pop
  h.2.setPc (s.width.word l.1 h.1)

/-- RTI, opcode 40 (43_control R183, 30_encoding R97). -/
def execRti (s : State) : Host.Outcome State Fault Refusal :=
  .next (rti s)

/-- Branch(cond): the signed offset is added to the address of the next instruction (43_control R184). -/
def branch (s : State) (cond : Bool) (d : Word) : State :=
  if cond then
    if d.toNat ≥ s.width.signBit then s.setPc (s.pc.toNat + 2 ^ s.width.aw - (2 ^ s.width.dw - d.toNat))
    else s.setPc (s.pc.toNat + d.toNat)
  else s

/-- BCC label, opcode 90 (43_control R185, 30_encoding R96). -/
def execBcc (d : Word) (s : State) : Host.Outcome State Fault Refusal :=
  .next (branch s (!s.flagC) d)

/-- BCS label, opcode B0 (43_control R186, 30_encoding R96). -/
def execBcs (d : Word) (s : State) : Host.Outcome State Fault Refusal :=
  .next (branch s s.flagC d)

/-- BEQ label, opcode F0 (43_control R187, 30_encoding R96). -/
def execBeq (d : Word) (s : State) : Host.Outcome State Fault Refusal :=
  .next (branch s s.flagZ d)

/-- BNE label, opcode D0 (43_control R188, 30_encoding R96). -/
def execBne (d : Word) (s : State) : Host.Outcome State Fault Refusal :=
  .next (branch s (!s.flagZ) d)

/-- BMI label, opcode 30 (43_control R189, 30_encoding R96). -/
def execBmi (d : Word) (s : State) : Host.Outcome State Fault Refusal :=
  .next (branch s s.flagN d)

/-- BPL label, opcode 10 (43_control R190, 30_encoding R96). -/
def execBpl (d : Word) (s : State) : Host.Outcome State Fault Refusal :=
  .next (branch s (!s.flagN) d)

/-- BVC label, opcode 50 (43_control R191, 30_encoding R96). -/
def execBvc (d : Word) (s : State) : Host.Outcome State Fault Refusal :=
  .next (branch s (!s.flagV) d)

/-- BVS label, opcode 70 (43_control R192, 30_encoding R96). -/
def execBvs (d : Word) (s : State) : Host.Outcome State Fault Refusal :=
  .next (branch s s.flagV d)

/-- BRK, opcode 00 (43_control R193, 30_encoding R97). -/
def execBrk (s : State) : Host.Outcome State Fault Refusal :=
  .next (s.halt .brk s.opcodeAddr)

/-- NOP, opcode EA (43_control R194, 30_encoding R97). -/
def execNop (s : State) : Host.Outcome State Fault Refusal :=
  .next s

end Sys2Proof.Machine
end

