-- ==== Sys2Proof/Machine/IncShift.lean ====
section
/-! DEFINITION. Increments, decrements, shifts and rotates (42_inc_dec_shift).
One meaning per opcode row, over shared operations. -/

namespace Sys2Proof.Machine

/-- INC: one read and one write of the cell at `ea` (42_inc_dec_shift R160, R170). -/
def incMem (s : State) (ea : Nat) : State :=
  let r := s.width.cell ((s.read ea).toNat + 1)
  (s.store ea r).setNZ r

/-- INC $zz, opcode E6 (42_inc_dec_shift R160, 30_encoding R87). -/
def execIncZp (z : Word) (s : State) : Host.Outcome State Fault Refusal :=
  .next (incMem s (s.ea (.zp z)))

/-- INC $zz,X, opcode F6 (42_inc_dec_shift R160, 30_encoding R88). -/
def execIncZpx (z : Word) (s : State) : Host.Outcome State Fault Refusal :=
  .next (incMem s (s.ea (.zpx z)))

/-- INC $aaaa, opcode EE (42_inc_dec_shift R160, 30_encoding R90). -/
def execIncAbs (lo hi : Word) (s : State) : Host.Outcome State Fault Refusal :=
  .next (incMem s (s.ea (.abs lo hi)))

/-- INC $aaaa,X, opcode FE (42_inc_dec_shift R160, 30_encoding R91). -/
def execIncAbsx (lo hi : Word) (s : State) : Host.Outcome State Fault Refusal :=
  .next (incMem s (s.ea (.absx lo hi)))

/-- DEC: one read and one write of the cell at `ea` (42_inc_dec_shift R161, R170). -/
def decMem (s : State) (ea : Nat) : State :=
  let r := s.width.cellInt (((s.read ea).toNat : Int) - 1)
  (s.store ea r).setNZ r

/-- DEC $zz, opcode C6 (42_inc_dec_shift R161, 30_encoding R87). -/
def execDecZp (z : Word) (s : State) : Host.Outcome State Fault Refusal :=
  .next (decMem s (s.ea (.zp z)))

/-- DEC $zz,X, opcode D6 (42_inc_dec_shift R161, 30_encoding R88). -/
def execDecZpx (z : Word) (s : State) : Host.Outcome State Fault Refusal :=
  .next (decMem s (s.ea (.zpx z)))

/-- DEC $aaaa, opcode CE (42_inc_dec_shift R161, 30_encoding R90). -/
def execDecAbs (lo hi : Word) (s : State) : Host.Outcome State Fault Refusal :=
  .next (decMem s (s.ea (.abs lo hi)))

/-- DEC $aaaa,X, opcode DE (42_inc_dec_shift R161, 30_encoding R91). -/
def execDecAbsx (lo hi : Word) (s : State) : Host.Outcome State Fault Refusal :=
  .next (decMem s (s.ea (.absx lo hi)))

/-- The value `(v + 1) AND DM` of INX and INY (42_inc_dec_shift R162, R163). -/
def State.incremented (s : State) (v : Word) : Word := s.width.cell (v.toNat + 1)

/-- The value `(v - 1) AND DM` of DEX and DEY (42_inc_dec_shift R164, R165). -/
def State.decremented (s : State) (v : Word) : Word := s.width.cellInt ((v.toNat : Int) - 1)

/-- INX, opcode E8 (42_inc_dec_shift R162, 30_encoding R97). -/
def execInx (s : State) : Host.Outcome State Fault Refusal :=
  .next ((s.setX (s.incremented s.x)).setNZ (s.incremented s.x))

/-- INY, opcode C8 (42_inc_dec_shift R163, 30_encoding R97). -/
def execIny (s : State) : Host.Outcome State Fault Refusal :=
  .next ((s.setY (s.incremented s.y)).setNZ (s.incremented s.y))

/-- DEX, opcode CA (42_inc_dec_shift R164, 30_encoding R97). -/
def execDex (s : State) : Host.Outcome State Fault Refusal :=
  .next ((s.setX (s.decremented s.x)).setNZ (s.decremented s.x))

/-- DEY, opcode 88 (42_inc_dec_shift R165, 30_encoding R97). -/
def execDey (s : State) : Host.Outcome State Fault Refusal :=
  .next ((s.setY (s.decremented s.y)).setNZ (s.decremented s.y))

/-- A shift or rotate of A: C, A and N, Z from `f` (42_inc_dec_shift, section 3). -/
def shiftA (f : Width → Word → Bool → Word × Bool) (s : State) : State :=
  let r := f s.width s.a s.flagC
  ((s.setC r.2).setA r.1).setNZ r.1

/-- A shift or rotate of the cell at `ea`: one read, one write (42_inc_dec_shift R170). -/
def shiftMem (f : Width → Word → Bool → Word × Bool) (s : State) (ea : Nat) : State :=
  let r := f s.width (s.read ea) s.flagC
  ((s.setC r.2).store ea r.1).setNZ r.1

/-- ASL, opcode 0A (42_inc_dec_shift R166, 30_encoding R97). -/
def execAslAcc (s : State) : Host.Outcome State Fault Refusal :=
  .next (shiftA aslResult s)

/-- ASL $zz, opcode 06 (42_inc_dec_shift R166, 30_encoding R87). -/
def execAslZp (z : Word) (s : State) : Host.Outcome State Fault Refusal :=
  .next (shiftMem aslResult s (s.ea (.zp z)))

/-- ASL $zz,X, opcode 16 (42_inc_dec_shift R166, 30_encoding R88). -/
def execAslZpx (z : Word) (s : State) : Host.Outcome State Fault Refusal :=
  .next (shiftMem aslResult s (s.ea (.zpx z)))

/-- ASL $aaaa, opcode 0E (42_inc_dec_shift R166, 30_encoding R90). -/
def execAslAbs (lo hi : Word) (s : State) : Host.Outcome State Fault Refusal :=
  .next (shiftMem aslResult s (s.ea (.abs lo hi)))

/-- ASL $aaaa,X, opcode 1E (42_inc_dec_shift R166, 30_encoding R91). -/
def execAslAbsx (lo hi : Word) (s : State) : Host.Outcome State Fault Refusal :=
  .next (shiftMem aslResult s (s.ea (.absx lo hi)))

/-- LSR, opcode 4A (42_inc_dec_shift R167, 30_encoding R97). -/
def execLsrAcc (s : State) : Host.Outcome State Fault Refusal :=
  .next (shiftA lsrResult s)

/-- LSR $zz, opcode 46 (42_inc_dec_shift R167, 30_encoding R87). -/
def execLsrZp (z : Word) (s : State) : Host.Outcome State Fault Refusal :=
  .next (shiftMem lsrResult s (s.ea (.zp z)))

/-- LSR $zz,X, opcode 56 (42_inc_dec_shift R167, 30_encoding R88). -/
def execLsrZpx (z : Word) (s : State) : Host.Outcome State Fault Refusal :=
  .next (shiftMem lsrResult s (s.ea (.zpx z)))

/-- LSR $aaaa, opcode 4E (42_inc_dec_shift R167, 30_encoding R90). -/
def execLsrAbs (lo hi : Word) (s : State) : Host.Outcome State Fault Refusal :=
  .next (shiftMem lsrResult s (s.ea (.abs lo hi)))

/-- LSR $aaaa,X, opcode 5E (42_inc_dec_shift R167, 30_encoding R91). -/
def execLsrAbsx (lo hi : Word) (s : State) : Host.Outcome State Fault Refusal :=
  .next (shiftMem lsrResult s (s.ea (.absx lo hi)))

/-- ROL, opcode 2A (42_inc_dec_shift R168, 30_encoding R97). -/
def execRolAcc (s : State) : Host.Outcome State Fault Refusal :=
  .next (shiftA rolResult s)

/-- ROL $zz, opcode 26 (42_inc_dec_shift R168, 30_encoding R87). -/
def execRolZp (z : Word) (s : State) : Host.Outcome State Fault Refusal :=
  .next (shiftMem rolResult s (s.ea (.zp z)))

/-- ROL $zz,X, opcode 36 (42_inc_dec_shift R168, 30_encoding R88). -/
def execRolZpx (z : Word) (s : State) : Host.Outcome State Fault Refusal :=
  .next (shiftMem rolResult s (s.ea (.zpx z)))

/-- ROL $aaaa, opcode 2E (42_inc_dec_shift R168, 30_encoding R90). -/
def execRolAbs (lo hi : Word) (s : State) : Host.Outcome State Fault Refusal :=
  .next (shiftMem rolResult s (s.ea (.abs lo hi)))

/-- ROL $aaaa,X, opcode 3E (42_inc_dec_shift R168, 30_encoding R91). -/
def execRolAbsx (lo hi : Word) (s : State) : Host.Outcome State Fault Refusal :=
  .next (shiftMem rolResult s (s.ea (.absx lo hi)))

/-- ROR, opcode 6A (42_inc_dec_shift R169, 30_encoding R97). -/
def execRorAcc (s : State) : Host.Outcome State Fault Refusal :=
  .next (shiftA rorResult s)

/-- ROR $zz, opcode 66 (42_inc_dec_shift R169, 30_encoding R87). -/
def execRorZp (z : Word) (s : State) : Host.Outcome State Fault Refusal :=
  .next (shiftMem rorResult s (s.ea (.zp z)))

/-- ROR $zz,X, opcode 76 (42_inc_dec_shift R169, 30_encoding R88). -/
def execRorZpx (z : Word) (s : State) : Host.Outcome State Fault Refusal :=
  .next (shiftMem rorResult s (s.ea (.zpx z)))

/-- ROR $aaaa, opcode 6E (42_inc_dec_shift R169, 30_encoding R90). -/
def execRorAbs (lo hi : Word) (s : State) : Host.Outcome State Fault Refusal :=
  .next (shiftMem rorResult s (s.ea (.abs lo hi)))

/-- ROR $aaaa,X, opcode 7E (42_inc_dec_shift R169, 30_encoding R91). -/
def execRorAbsx (lo hi : Word) (s : State) : Host.Outcome State Fault Refusal :=
  .next (shiftMem rorResult s (s.ea (.absx lo hi)))

end Sys2Proof.Machine
end

