-- ==== Sys2Proof/Machine/LoadStore.lean ====
section
/-! DEFINITION. Loads, stores and register transfers (40_load_store_transfer).
One meaning per opcode row, over shared operations. -/

namespace Sys2Proof.Machine

/-- LDA: `A <- m; SetNZ(A)` (40_load_store_transfer R120). -/
def lda (s : State) (m : Word) : State := (s.setA m).setNZ m

/-- LDA #v, opcode A9 (40_load_store_transfer R120, 30_encoding R86). -/
def execLdaImm (v : Word) (s : State) : Host.Outcome State Fault Refusal :=
  .next (lda s v)

/-- LDA $zz, opcode A5 (40_load_store_transfer R120, 30_encoding R87). -/
def execLdaZp (z : Word) (s : State) : Host.Outcome State Fault Refusal :=
  .next (lda s (s.load (.zp z)))

/-- LDA $zz,X, opcode B5 (40_load_store_transfer R120, 30_encoding R88). -/
def execLdaZpx (z : Word) (s : State) : Host.Outcome State Fault Refusal :=
  .next (lda s (s.load (.zpx z)))

/-- LDA $aaaa, opcode AD (40_load_store_transfer R120, 30_encoding R90). -/
def execLdaAbs (lo hi : Word) (s : State) : Host.Outcome State Fault Refusal :=
  .next (lda s (s.load (.abs lo hi)))

/-- LDA $aaaa,X, opcode BD (40_load_store_transfer R120, 30_encoding R91). -/
def execLdaAbsx (lo hi : Word) (s : State) : Host.Outcome State Fault Refusal :=
  .next (lda s (s.load (.absx lo hi)))

/-- LDA $aaaa,Y, opcode B9 (40_load_store_transfer R120, 30_encoding R92). -/
def execLdaAbsy (lo hi : Word) (s : State) : Host.Outcome State Fault Refusal :=
  .next (lda s (s.load (.absy lo hi)))

/-- LDA ($zz,X), opcode A1 (40_load_store_transfer R120, 30_encoding R94). -/
def execLdaIndx (z : Word) (s : State) : Host.Outcome State Fault Refusal :=
  .next (lda s (s.load (.indx z)))

/-- LDA ($zz),Y, opcode B1 (40_load_store_transfer R120, 30_encoding R95). -/
def execLdaIndy (z : Word) (s : State) : Host.Outcome State Fault Refusal :=
  .next (lda s (s.load (.indy z)))

/-- LDX: `X <- m; SetNZ(X)` (40_load_store_transfer R121). -/
def ldx (s : State) (m : Word) : State := (s.setX m).setNZ m

/-- LDX #v, opcode A2 (40_load_store_transfer R121, 30_encoding R86). -/
def execLdxImm (v : Word) (s : State) : Host.Outcome State Fault Refusal :=
  .next (ldx s v)

/-- LDX $zz, opcode A6 (40_load_store_transfer R121, 30_encoding R87). -/
def execLdxZp (z : Word) (s : State) : Host.Outcome State Fault Refusal :=
  .next (ldx s (s.load (.zp z)))

/-- LDX $zz,Y, opcode B6 (40_load_store_transfer R121, 30_encoding R89). -/
def execLdxZpy (z : Word) (s : State) : Host.Outcome State Fault Refusal :=
  .next (ldx s (s.load (.zpy z)))

/-- LDX $aaaa, opcode AE (40_load_store_transfer R121, 30_encoding R90). -/
def execLdxAbs (lo hi : Word) (s : State) : Host.Outcome State Fault Refusal :=
  .next (ldx s (s.load (.abs lo hi)))

/-- LDX $aaaa,Y, opcode BE (40_load_store_transfer R121, 30_encoding R92). -/
def execLdxAbsy (lo hi : Word) (s : State) : Host.Outcome State Fault Refusal :=
  .next (ldx s (s.load (.absy lo hi)))

/-- LDY: `Y <- m; SetNZ(Y)` (40_load_store_transfer R122). -/
def ldy (s : State) (m : Word) : State := (s.setY m).setNZ m

/-- LDY #v, opcode A0 (40_load_store_transfer R122, 30_encoding R86). -/
def execLdyImm (v : Word) (s : State) : Host.Outcome State Fault Refusal :=
  .next (ldy s v)

/-- LDY $zz, opcode A4 (40_load_store_transfer R122, 30_encoding R87). -/
def execLdyZp (z : Word) (s : State) : Host.Outcome State Fault Refusal :=
  .next (ldy s (s.load (.zp z)))

/-- LDY $zz,X, opcode B4 (40_load_store_transfer R122, 30_encoding R88). -/
def execLdyZpx (z : Word) (s : State) : Host.Outcome State Fault Refusal :=
  .next (ldy s (s.load (.zpx z)))

/-- LDY $aaaa, opcode AC (40_load_store_transfer R122, 30_encoding R90). -/
def execLdyAbs (lo hi : Word) (s : State) : Host.Outcome State Fault Refusal :=
  .next (ldy s (s.load (.abs lo hi)))

/-- LDY $aaaa,X, opcode BC (40_load_store_transfer R122, 30_encoding R91). -/
def execLdyAbsx (lo hi : Word) (s : State) : Host.Outcome State Fault Refusal :=
  .next (ldy s (s.load (.absx lo hi)))

/-- STA: `MemWrite(ea, 1, A)` (40_load_store_transfer R123). -/
def sta (s : State) (ea : Nat) : State := s.store ea s.a

/-- STA $zz, opcode 85 (40_load_store_transfer R123, 30_encoding R87). -/
def execStaZp (z : Word) (s : State) : Host.Outcome State Fault Refusal :=
  .next (sta s (s.ea (.zp z)))

/-- STA $zz,X, opcode 95 (40_load_store_transfer R123, 30_encoding R88). -/
def execStaZpx (z : Word) (s : State) : Host.Outcome State Fault Refusal :=
  .next (sta s (s.ea (.zpx z)))

/-- STA $aaaa, opcode 8D (40_load_store_transfer R123, 30_encoding R90). -/
def execStaAbs (lo hi : Word) (s : State) : Host.Outcome State Fault Refusal :=
  .next (sta s (s.ea (.abs lo hi)))

/-- STA $aaaa,X, opcode 9D (40_load_store_transfer R123, 30_encoding R91). -/
def execStaAbsx (lo hi : Word) (s : State) : Host.Outcome State Fault Refusal :=
  .next (sta s (s.ea (.absx lo hi)))

/-- STA $aaaa,Y, opcode 99 (40_load_store_transfer R123, 30_encoding R92). -/
def execStaAbsy (lo hi : Word) (s : State) : Host.Outcome State Fault Refusal :=
  .next (sta s (s.ea (.absy lo hi)))

/-- STA ($zz,X), opcode 81 (40_load_store_transfer R123, 30_encoding R94). -/
def execStaIndx (z : Word) (s : State) : Host.Outcome State Fault Refusal :=
  .next (sta s (s.ea (.indx z)))

/-- STA ($zz),Y, opcode 91 (40_load_store_transfer R123, 30_encoding R95). -/
def execStaIndy (z : Word) (s : State) : Host.Outcome State Fault Refusal :=
  .next (sta s (s.ea (.indy z)))

/-- STX: `MemWrite(ea, 1, X)` (40_load_store_transfer R124). -/
def stx (s : State) (ea : Nat) : State := s.store ea s.x

/-- STX $zz, opcode 86 (40_load_store_transfer R124, 30_encoding R87). -/
def execStxZp (z : Word) (s : State) : Host.Outcome State Fault Refusal :=
  .next (stx s (s.ea (.zp z)))

/-- STX $zz,Y, opcode 96 (40_load_store_transfer R124, 30_encoding R89). -/
def execStxZpy (z : Word) (s : State) : Host.Outcome State Fault Refusal :=
  .next (stx s (s.ea (.zpy z)))

/-- STX $aaaa, opcode 8E (40_load_store_transfer R124, 30_encoding R90). -/
def execStxAbs (lo hi : Word) (s : State) : Host.Outcome State Fault Refusal :=
  .next (stx s (s.ea (.abs lo hi)))

/-- STY: `MemWrite(ea, 1, Y)` (40_load_store_transfer R125). -/
def sty (s : State) (ea : Nat) : State := s.store ea s.y

/-- STY $zz, opcode 84 (40_load_store_transfer R125, 30_encoding R87). -/
def execStyZp (z : Word) (s : State) : Host.Outcome State Fault Refusal :=
  .next (sty s (s.ea (.zp z)))

/-- STY $zz,X, opcode 94 (40_load_store_transfer R125, 30_encoding R88). -/
def execStyZpx (z : Word) (s : State) : Host.Outcome State Fault Refusal :=
  .next (sty s (s.ea (.zpx z)))

/-- STY $aaaa, opcode 8C (40_load_store_transfer R125, 30_encoding R90). -/
def execStyAbs (lo hi : Word) (s : State) : Host.Outcome State Fault Refusal :=
  .next (sty s (s.ea (.abs lo hi)))

/-- TAX, opcode AA (40_load_store_transfer R126, 30_encoding R97). -/
def execTax (s : State) : Host.Outcome State Fault Refusal :=
  .next ((s.setX s.a).setNZ s.a)

/-- TAY, opcode A8 (40_load_store_transfer R127, 30_encoding R97). -/
def execTay (s : State) : Host.Outcome State Fault Refusal :=
  .next ((s.setY s.a).setNZ s.a)

/-- TXA, opcode 8A (40_load_store_transfer R128, 30_encoding R97). -/
def execTxa (s : State) : Host.Outcome State Fault Refusal :=
  .next ((s.setA s.x).setNZ s.x)

/-- TYA, opcode 98 (40_load_store_transfer R129, 30_encoding R97). -/
def execTya (s : State) : Host.Outcome State Fault Refusal :=
  .next ((s.setA s.y).setNZ s.y)

/-- TSX, opcode BA (40_load_store_transfer R130, 30_encoding R97). -/
def execTsx (s : State) : Host.Outcome State Fault Refusal :=
  .next ((s.setX s.sp).setNZ s.sp)

/-- TXS, opcode 9A (40_load_store_transfer R131, 30_encoding R97). -/
def execTxs (s : State) : Host.Outcome State Fault Refusal :=
  .next (s.setSp s.x)

end Sys2Proof.Machine
end

