-- ==== Sys2Proof/Machine/StackFlags.lean ====
section
/-! DEFINITION. Stack and flag instructions (44_stack_flags).
One meaning per opcode row, over shared operations. -/

namespace Sys2Proof.Machine

/-- PHA, opcode 48 (44_stack_flags R200, 30_encoding R97). -/
def execPha (s : State) : Host.Outcome State Fault Refusal :=
  .next (s.push s.a)

/-- PHP, opcode 08 (44_stack_flags R201, 30_encoding R97). -/
def execPhp (s : State) : Host.Outcome State Fault Refusal :=
  .next (s.push (withB s.p))

/-- PLA: `A <- Pop(); SetNZ(A)` (44_stack_flags R202). -/
def pla (s : State) : State := (s.pop.2.setA s.pop.1).setNZ s.pop.1

/-- PLA, opcode 68 (44_stack_flags R202, 30_encoding R97). -/
def execPla (s : State) : Host.Outcome State Fault Refusal :=
  .next (pla s)

/-- PLP: `P <- Pop() OR 0x30` (44_stack_flags R203). -/
def plp (s : State) : State := s.pop.2.setP (withB s.pop.1)

/-- PLP, opcode 28 (44_stack_flags R203, 30_encoding R97). -/
def execPlp (s : State) : Host.Outcome State Fault Refusal :=
  .next (plp s)

/-- CLC, opcode 18 (44_stack_flags R204, 30_encoding R97). -/
def execClc (s : State) : Host.Outcome State Fault Refusal :=
  .next (s.setC false)

/-- SEC, opcode 38 (44_stack_flags R205, 30_encoding R97). -/
def execSec (s : State) : Host.Outcome State Fault Refusal :=
  .next (s.setC true)

/-- CLD, opcode D8 (44_stack_flags R206, 30_encoding R97). -/
def execCld (s : State) : Host.Outcome State Fault Refusal :=
  .next (s.setD false)

/-- SED, opcode F8 (44_stack_flags R207, 30_encoding R97). -/
def execSed (s : State) : Host.Outcome State Fault Refusal :=
  .next (s.setD true)

/-- CLV, opcode B8 (44_stack_flags R208, 30_encoding R97). -/
def execClv (s : State) : Host.Outcome State Fault Refusal :=
  .next (s.setV false)

/-- CLI, opcode 58 (44_stack_flags R209, 30_encoding R97). -/
def execCli (s : State) : Host.Outcome State Fault Refusal :=
  .next (s.halt .unimplementedFeature s.opcodeAddr)

/-- SEI, opcode 78 (44_stack_flags R210, 30_encoding R97). -/
def execSei (s : State) : Host.Outcome State Fault Refusal :=
  .next (s.halt .unimplementedFeature s.opcodeAddr)

end Sys2Proof.Machine
end

