-- ==== Sys2Proof/Machine/Dispatch.lean ====
section
/-! DEFINITION. Dispatch: one arm per row of the opcode table, each one call of that row's meaning (30_encoding R85). -/

namespace Sys2Proof.Machine

def exec (i : Instr) (s : State) : Host.Outcome State Fault Refusal :=
  match i with
  | .adcImm v => Sys2Proof.Machine.execAdcImm v s
  | .adcZp z => Sys2Proof.Machine.execAdcZp z s
  | .adcZpx z => Sys2Proof.Machine.execAdcZpx z s
  | .adcAbs lo hi => Sys2Proof.Machine.execAdcAbs lo hi s
  | .adcAbsx lo hi => Sys2Proof.Machine.execAdcAbsx lo hi s
  | .adcAbsy lo hi => Sys2Proof.Machine.execAdcAbsy lo hi s
  | .adcIndx z => Sys2Proof.Machine.execAdcIndx z s
  | .adcIndy z => Sys2Proof.Machine.execAdcIndy z s
  | .andImm v => Sys2Proof.Machine.execAndImm v s
  | .andZp z => Sys2Proof.Machine.execAndZp z s
  | .andZpx z => Sys2Proof.Machine.execAndZpx z s
  | .andAbs lo hi => Sys2Proof.Machine.execAndAbs lo hi s
  | .andAbsx lo hi => Sys2Proof.Machine.execAndAbsx lo hi s
  | .andAbsy lo hi => Sys2Proof.Machine.execAndAbsy lo hi s
  | .andIndx z => Sys2Proof.Machine.execAndIndx z s
  | .andIndy z => Sys2Proof.Machine.execAndIndy z s
  | .aslAcc => Sys2Proof.Machine.execAslAcc s
  | .aslZp z => Sys2Proof.Machine.execAslZp z s
  | .aslZpx z => Sys2Proof.Machine.execAslZpx z s
  | .aslAbs lo hi => Sys2Proof.Machine.execAslAbs lo hi s
  | .aslAbsx lo hi => Sys2Proof.Machine.execAslAbsx lo hi s
  | .bcc d => Sys2Proof.Machine.execBcc d s
  | .bcs d => Sys2Proof.Machine.execBcs d s
  | .beq d => Sys2Proof.Machine.execBeq d s
  | .bitZp z => Sys2Proof.Machine.execBitZp z s
  | .bitAbs lo hi => Sys2Proof.Machine.execBitAbs lo hi s
  | .bmi d => Sys2Proof.Machine.execBmi d s
  | .bne d => Sys2Proof.Machine.execBne d s
  | .bpl d => Sys2Proof.Machine.execBpl d s
  | .brk => Sys2Proof.Machine.execBrk s
  | .bvc d => Sys2Proof.Machine.execBvc d s
  | .bvs d => Sys2Proof.Machine.execBvs d s
  | .clc => Sys2Proof.Machine.execClc s
  | .cld => Sys2Proof.Machine.execCld s
  | .cli => Sys2Proof.Machine.execCli s
  | .clv => Sys2Proof.Machine.execClv s
  | .cmpImm v => Sys2Proof.Machine.execCmpImm v s
  | .cmpZp z => Sys2Proof.Machine.execCmpZp z s
  | .cmpZpx z => Sys2Proof.Machine.execCmpZpx z s
  | .cmpAbs lo hi => Sys2Proof.Machine.execCmpAbs lo hi s
  | .cmpAbsx lo hi => Sys2Proof.Machine.execCmpAbsx lo hi s
  | .cmpAbsy lo hi => Sys2Proof.Machine.execCmpAbsy lo hi s
  | .cmpIndx z => Sys2Proof.Machine.execCmpIndx z s
  | .cmpIndy z => Sys2Proof.Machine.execCmpIndy z s
  | .cpxImm v => Sys2Proof.Machine.execCpxImm v s
  | .cpxZp z => Sys2Proof.Machine.execCpxZp z s
  | .cpxAbs lo hi => Sys2Proof.Machine.execCpxAbs lo hi s
  | .cpyImm v => Sys2Proof.Machine.execCpyImm v s
  | .cpyZp z => Sys2Proof.Machine.execCpyZp z s
  | .cpyAbs lo hi => Sys2Proof.Machine.execCpyAbs lo hi s
  | .decZp z => Sys2Proof.Machine.execDecZp z s
  | .decZpx z => Sys2Proof.Machine.execDecZpx z s
  | .decAbs lo hi => Sys2Proof.Machine.execDecAbs lo hi s
  | .decAbsx lo hi => Sys2Proof.Machine.execDecAbsx lo hi s
  | .dex => Sys2Proof.Machine.execDex s
  | .dey => Sys2Proof.Machine.execDey s
  | .eorImm v => Sys2Proof.Machine.execEorImm v s
  | .eorZp z => Sys2Proof.Machine.execEorZp z s
  | .eorZpx z => Sys2Proof.Machine.execEorZpx z s
  | .eorAbs lo hi => Sys2Proof.Machine.execEorAbs lo hi s
  | .eorAbsx lo hi => Sys2Proof.Machine.execEorAbsx lo hi s
  | .eorAbsy lo hi => Sys2Proof.Machine.execEorAbsy lo hi s
  | .eorIndx z => Sys2Proof.Machine.execEorIndx z s
  | .eorIndy z => Sys2Proof.Machine.execEorIndy z s
  | .incZp z => Sys2Proof.Machine.execIncZp z s
  | .incZpx z => Sys2Proof.Machine.execIncZpx z s
  | .incAbs lo hi => Sys2Proof.Machine.execIncAbs lo hi s
  | .incAbsx lo hi => Sys2Proof.Machine.execIncAbsx lo hi s
  | .inx => Sys2Proof.Machine.execInx s
  | .iny => Sys2Proof.Machine.execIny s
  | .jmpAbs lo hi => Sys2Proof.Machine.execJmpAbs lo hi s
  | .jmpInd lo hi => Sys2Proof.Machine.execJmpInd lo hi s
  | .jsrAbs lo hi => Sys2Proof.Machine.execJsrAbs lo hi s
  | .ldaImm v => Sys2Proof.Machine.execLdaImm v s
  | .ldaZp z => Sys2Proof.Machine.execLdaZp z s
  | .ldaZpx z => Sys2Proof.Machine.execLdaZpx z s
  | .ldaAbs lo hi => Sys2Proof.Machine.execLdaAbs lo hi s
  | .ldaAbsx lo hi => Sys2Proof.Machine.execLdaAbsx lo hi s
  | .ldaAbsy lo hi => Sys2Proof.Machine.execLdaAbsy lo hi s
  | .ldaIndx z => Sys2Proof.Machine.execLdaIndx z s
  | .ldaIndy z => Sys2Proof.Machine.execLdaIndy z s
  | .ldxImm v => Sys2Proof.Machine.execLdxImm v s
  | .ldxZp z => Sys2Proof.Machine.execLdxZp z s
  | .ldxZpy z => Sys2Proof.Machine.execLdxZpy z s
  | .ldxAbs lo hi => Sys2Proof.Machine.execLdxAbs lo hi s
  | .ldxAbsy lo hi => Sys2Proof.Machine.execLdxAbsy lo hi s
  | .ldyImm v => Sys2Proof.Machine.execLdyImm v s
  | .ldyZp z => Sys2Proof.Machine.execLdyZp z s
  | .ldyZpx z => Sys2Proof.Machine.execLdyZpx z s
  | .ldyAbs lo hi => Sys2Proof.Machine.execLdyAbs lo hi s
  | .ldyAbsx lo hi => Sys2Proof.Machine.execLdyAbsx lo hi s
  | .lsrAcc => Sys2Proof.Machine.execLsrAcc s
  | .lsrZp z => Sys2Proof.Machine.execLsrZp z s
  | .lsrZpx z => Sys2Proof.Machine.execLsrZpx z s
  | .lsrAbs lo hi => Sys2Proof.Machine.execLsrAbs lo hi s
  | .lsrAbsx lo hi => Sys2Proof.Machine.execLsrAbsx lo hi s
  | .nop => Sys2Proof.Machine.execNop s
  | .oraImm v => Sys2Proof.Machine.execOraImm v s
  | .oraZp z => Sys2Proof.Machine.execOraZp z s
  | .oraZpx z => Sys2Proof.Machine.execOraZpx z s
  | .oraAbs lo hi => Sys2Proof.Machine.execOraAbs lo hi s
  | .oraAbsx lo hi => Sys2Proof.Machine.execOraAbsx lo hi s
  | .oraAbsy lo hi => Sys2Proof.Machine.execOraAbsy lo hi s
  | .oraIndx z => Sys2Proof.Machine.execOraIndx z s
  | .oraIndy z => Sys2Proof.Machine.execOraIndy z s
  | .pha => Sys2Proof.Machine.execPha s
  | .php => Sys2Proof.Machine.execPhp s
  | .pla => Sys2Proof.Machine.execPla s
  | .plp => Sys2Proof.Machine.execPlp s
  | .rolAcc => Sys2Proof.Machine.execRolAcc s
  | .rolZp z => Sys2Proof.Machine.execRolZp z s
  | .rolZpx z => Sys2Proof.Machine.execRolZpx z s
  | .rolAbs lo hi => Sys2Proof.Machine.execRolAbs lo hi s
  | .rolAbsx lo hi => Sys2Proof.Machine.execRolAbsx lo hi s
  | .rorAcc => Sys2Proof.Machine.execRorAcc s
  | .rorZp z => Sys2Proof.Machine.execRorZp z s
  | .rorZpx z => Sys2Proof.Machine.execRorZpx z s
  | .rorAbs lo hi => Sys2Proof.Machine.execRorAbs lo hi s
  | .rorAbsx lo hi => Sys2Proof.Machine.execRorAbsx lo hi s
  | .rti => Sys2Proof.Machine.execRti s
  | .rts => Sys2Proof.Machine.execRts s
  | .sbcImm v => Sys2Proof.Machine.execSbcImm v s
  | .sbcZp z => Sys2Proof.Machine.execSbcZp z s
  | .sbcZpx z => Sys2Proof.Machine.execSbcZpx z s
  | .sbcAbs lo hi => Sys2Proof.Machine.execSbcAbs lo hi s
  | .sbcAbsx lo hi => Sys2Proof.Machine.execSbcAbsx lo hi s
  | .sbcAbsy lo hi => Sys2Proof.Machine.execSbcAbsy lo hi s
  | .sbcIndx z => Sys2Proof.Machine.execSbcIndx z s
  | .sbcIndy z => Sys2Proof.Machine.execSbcIndy z s
  | .sec => Sys2Proof.Machine.execSec s
  | .sed => Sys2Proof.Machine.execSed s
  | .sei => Sys2Proof.Machine.execSei s
  | .staZp z => Sys2Proof.Machine.execStaZp z s
  | .staZpx z => Sys2Proof.Machine.execStaZpx z s
  | .staAbs lo hi => Sys2Proof.Machine.execStaAbs lo hi s
  | .staAbsx lo hi => Sys2Proof.Machine.execStaAbsx lo hi s
  | .staAbsy lo hi => Sys2Proof.Machine.execStaAbsy lo hi s
  | .staIndx z => Sys2Proof.Machine.execStaIndx z s
  | .staIndy z => Sys2Proof.Machine.execStaIndy z s
  | .stxZp z => Sys2Proof.Machine.execStxZp z s
  | .stxZpy z => Sys2Proof.Machine.execStxZpy z s
  | .stxAbs lo hi => Sys2Proof.Machine.execStxAbs lo hi s
  | .styZp z => Sys2Proof.Machine.execStyZp z s
  | .styZpx z => Sys2Proof.Machine.execStyZpx z s
  | .styAbs lo hi => Sys2Proof.Machine.execStyAbs lo hi s
  | .tax => Sys2Proof.Machine.execTax s
  | .tay => Sys2Proof.Machine.execTay s
  | .tsx => Sys2Proof.Machine.execTsx s
  | .txa => Sys2Proof.Machine.execTxa s
  | .txs => Sys2Proof.Machine.execTxs s
  | .tya => Sys2Proof.Machine.execTya s

end Sys2Proof.Machine
end

