-- ==== Sys2Proof/Machine/Step.lean ====
section
/-! DEFINITION. One step: refresh, fetch, dispatch, execute, PC-zero check (30_encoding R83); and how the host places
an instruction where the next step fetches it. -/

namespace Sys2Proof.Machine

/-- One step. It is refused while Halted (10_state R35); an unmapped opcode cell halts (30_encoding R98). -/
def step (s : State) : Host.Outcome State Fault Refusal :=
  match s.status with
  | .halted _ _ => .refused .halted
  | .ready =>
    match decode s.refresh.fetchCells with
    | .error _ => .next s.refresh.unknownOpcode
    | .ok (i, _) =>
      match exec i (s.refresh.advance i.length) with
      | .next t => .next t.pcZeroCheck
      | .fault r => .fault r
      | .refused r => .refused r

/-- `s` with the instruction whose bits are `w` in the cells from PC on, and Ready (log 14, log 15). -/
def State.withFetchWord (s : State) (nbits w : Nat) : State :=
  s.placeAtPc (tableCells s.width nbits w)

end Sys2Proof.Machine
end

