-- ==== Sys2Proof/Machine/Text.lean ====
section
/-! DEFINITION. Text helpers of the assembler and the disassembler: lines, white space, identifiers, numbers,
hexadecimal output, and the mnemonics' names (45_assembler R222, R225, R227, 46_disassembler R265). -/

namespace Sys2Proof.Machine

/-- White space inside a line (log 12). -/
def isBlank (c : Char) : Bool := c = ' ' || c = '\t' || c = '\r'

/-- The text's lines: it is split at line breaks (45_assembler R222; log 12). -/
def splitLines : Text → List Text
  | [] => [[]]
  | c :: cs =>
    match splitLines cs with
    | [] => [[c]]
    | l :: ls => if c = '\n' then [] :: l :: ls else (c :: l) :: ls

/-- A text without its leading and trailing white space. -/
def trim (t : Text) : Text :=
  ((t.dropWhile isBlank).reverse.dropWhile isBlank).reverse

/-- A line stripped: the comment from the first `;` on removed, then leading and trailing white space
(45_assembler R222). -/
def stripLine (t : Text) : Text := trim (t.takeWhile (· ≠ ';'))

/-- A letter. -/
def isLetter (c : Char) : Bool := ('A' ≤ c && c ≤ 'Z') || ('a' ≤ c && c ≤ 'z')

/-- A decimal digit. -/
def isDigit (c : Char) : Bool := '0' ≤ c && c ≤ '9'

/-- A first character of an identifier (45_assembler R225). -/
def isIdentStart (c : Char) : Bool := isLetter c || c = '_'

/-- A later character of an identifier (45_assembler R225). -/
def isIdentChar (c : Char) : Bool := isIdentStart c || isDigit c

/-- The whole text is an identifier (45_assembler R225). -/
def isIdentifier : Text → Bool
  | [] => false
  | c :: cs => isIdentStart c && cs.all isIdentChar

/-- A letter in upper case. -/
def upper (c : Char) : Char :=
  if 'a' ≤ c && c ≤ 'z' then Char.ofNat (c.toNat - 32) else c

/-- The value of a hexadecimal digit, in either case. -/
def digitValue (c : Char) : Option Nat :=
  if isDigit c then some (c.toNat - '0'.toNat)
  else if 'A' ≤ upper c && upper c ≤ 'F' then some ((upper c).toNat - 'A'.toNat + 10)
  else none

/-- The number a text of digits below `base` denotes, continuing from `acc`. -/
def parseDigitsFrom (base : Nat) : Nat → Text → Option Nat
  | acc, [] => some acc
  | acc, c :: cs =>
    match digitValue c with
    | none => none
    | some d => if d < base then parseDigitsFrom base (acc * base + d) cs else none

/-- The number one or more digits denote. -/
def parseDigits (base : Nat) : Text → Option Nat
  | [] => none
  | c :: cs => parseDigitsFrom base 0 (c :: cs)

/-- A number: `$` and one or more hex digits, or one or more decimal digits (45_assembler R227, R228). -/
def parseNumber : Text → Option Nat
  | '$' :: ds => parseDigits 16 ds
  | ds => parseDigits 10 ds

/-- The parts of a text between commas. -/
def splitCommas : Text → List Text
  | [] => [[]]
  | c :: cs =>
    match splitCommas cs with
    | [] => [[c]]
    | l :: ls => if c = ',' then [] :: l :: ls else (c :: l) :: ls

/-- The text before a suffix, whose letters may have either case. -/
def stripSuffix (suffix t : Text) : Option Text :=
  if suffix.length ≤ t.length ∧ (t.drop (t.length - suffix.length)).map upper = suffix then
    some (t.take (t.length - suffix.length))
  else none

/-- An upper-case hexadecimal digit. -/
def hexDigit (d : Nat) : Char :=
  if d < 10 then Char.ofNat (48 + d) else Char.ofNat (55 + d)

/-- `v` in `n` upper-case hexadecimal digits, with leading zeros. -/
def hexDigits : Nat → Nat → Text
  | 0, _ => []
  | n + 1, v => hexDigits n (v / 16) ++ [hexDigit (v % 16)]

/-- The name of a mnemonic, in upper case. -/
def mnemonicName : Mnemonic → Text
  | .adc => "ADC".toList | .and => "AND".toList | .asl => "ASL".toList | .bcc => "BCC".toList
  | .bcs => "BCS".toList | .beq => "BEQ".toList | .bit => "BIT".toList | .bmi => "BMI".toList
  | .bne => "BNE".toList | .bpl => "BPL".toList | .brk => "BRK".toList | .bvc => "BVC".toList
  | .bvs => "BVS".toList | .clc => "CLC".toList | .cld => "CLD".toList | .cli => "CLI".toList
  | .clv => "CLV".toList | .cmp => "CMP".toList | .cpx => "CPX".toList | .cpy => "CPY".toList
  | .dec => "DEC".toList | .dex => "DEX".toList | .dey => "DEY".toList | .eor => "EOR".toList
  | .inc => "INC".toList | .inx => "INX".toList | .iny => "INY".toList | .jmp => "JMP".toList
  | .jsr => "JSR".toList | .lda => "LDA".toList | .ldx => "LDX".toList | .ldy => "LDY".toList
  | .lsr => "LSR".toList | .nop => "NOP".toList | .ora => "ORA".toList | .pha => "PHA".toList
  | .php => "PHP".toList | .pla => "PLA".toList | .plp => "PLP".toList | .rol => "ROL".toList
  | .ror => "ROR".toList | .rti => "RTI".toList | .rts => "RTS".toList | .sbc => "SBC".toList
  | .sec => "SEC".toList | .sed => "SED".toList | .sei => "SEI".toList | .sta => "STA".toList
  | .stx => "STX".toList | .sty => "STY".toList | .tax => "TAX".toList | .tay => "TAY".toList
  | .tsx => "TSX".toList | .txa => "TXA".toList | .txs => "TXS".toList | .tya => "TYA".toList

/-- The mnemonic of the opcode table a name stands for, without regard to case (45_assembler R229). -/
def mnemonicNamed (t : Text) : Option Mnemonic :=
  (opcodeTable.find? fun r => mnemonicName r.mnemonic == t.map upper).map (·.mnemonic)

end Sys2Proof.Machine
end

