-- ==== Sys2Proof/Machine/Assembler.lean ====
section
/-! DEFINITION. The two-pass assembler and the label table (45_assembler). It is a function of the text, the width
profile and ORIGIN; on success the core is reset and the cells are committed through the store (R220, R241). -/

namespace Sys2Proof.Machine

/-- Why an assembly fails (45_assembler R239, R240, R244). -/
inductive AsmError where
  /-- A label defined twice (R226). -/
  | labelConflict (line : Nat) (name : Text)
  /-- A line that cannot be encoded (R239). -/
  | assembly (line : Nat) (text : Text)
  /-- No cell was emitted (R240). -/
  | emptyProgram
  /-- An origin or an emission above AM (R227, R243). -/
  | addressOutOfRange (line : Nat) (text : Text)
deriving DecidableEq, Repr

/-- An assembled program: its label table, its cells with their addresses in the order of the commit (the sentinel
last), the number of cells without the sentinel, and the final cursor (45_assembler R238, R242). -/
structure Program where
  labels : List (Text × Nat)
  cells : List (Nat × Word)
  codeLength : Nat
  cursor : Nat
deriving DecidableEq, Repr

/-- What an operand text stands for. -/
inductive OperandText where
  | none
  | cell (v : Nat)
  | address (v : Nat)
  | target (v : Nat)
deriving DecidableEq, Repr

/-- What a stripped line without its label is (45_assembler R223). A malformed number or list is `Option.none`. -/
inductive LineBody where
  | empty
  | origin (v : Option Nat)
  | dcb (vs : Option (List Nat))
  | code (text : Text)
deriving DecidableEq, Repr

/-! Literals and operand patterns (45_assembler R231, R232). -/

/-- `$` and 1 to `n` hex digits, or decimal digits of a value up to `max`. -/
def literal (n max : Nat) : Text → Option Nat
  | '$' :: ds => if ds.length ≤ n then parseDigits 16 ds else none
  | ds => (parseDigits 10 ds).filter (· ≤ max)

/-- ZLIT and IVAL (45_assembler R231). -/
def zeroPageLiteral (w : Width) : Text → Option Nat := literal (w.dw / 4) w.dataMask

/-- ALIT (45_assembler R231). -/
def addressLiteral (w : Width) : Text → Option Nat := literal (w.aw / 4) w.addrMask

/-- LABEL: an identifier that `lab` resolves (45_assembler R231, R233). -/
def labelOperand (lab : Text → Option Nat) (t : Text) : Option Nat :=
  if isIdentifier t then lab t else none

/-- ALIT or LABEL (45_assembler R232, rows 6 and 9). -/
def addressOrLabel (w : Width) (lab : Text → Option Nat) (t : Text) : Option Nat :=
  (addressLiteral w t).orElse fun _ => labelOperand lab t

/-- The operand patterns of each mode; each matches the whole operand text (45_assembler R232). The relative mode takes
a label only (R232, R234; 95_test_vectors AS26), so the target text the disassembler shows for a branch is not accepted
(log 17). -/
def matchMode (w : Width) (lab : Text → Option Nat) : Mode → Text → Option OperandText
  | .single, t => if t = [] ∨ t.map upper = ['A'] then some .none else none
  | .imm, '#' :: '<' :: t => (labelOperand lab t).map fun v => .cell (w.lo v).toNat
  | .imm, '#' :: '>' :: t => (labelOperand lab t).map fun v => .cell (w.hi v).toNat
  | .imm, '#' :: t => (zeroPageLiteral w t).map .cell
  | .imm, _ => none
  | .zp, t => (zeroPageLiteral w t).map .cell
  | .zpx, t => ((stripSuffix [',', 'X'] t).bind (zeroPageLiteral w)).map .cell
  | .zpy, t => ((stripSuffix [',', 'Y'] t).bind (zeroPageLiteral w)).map .cell
  | .abs, t => (addressOrLabel w lab t).map .address
  | .absx, t => ((stripSuffix [',', 'X'] t).bind (addressLiteral w)).map .address
  | .absy, t => ((stripSuffix [',', 'Y'] t).bind (addressLiteral w)).map .address
  | .ind, '(' :: t => ((stripSuffix [')'] t).bind (addressOrLabel w lab)).map .address
  | .ind, _ => none
  | .indx, '(' :: t => ((stripSuffix [',', 'X', ')'] t).bind (zeroPageLiteral w)).map .cell
  | .indx, _ => none
  | .indy, '(' :: t => ((stripSuffix [')', ',', 'Y'] t).bind (zeroPageLiteral w)).map .cell
  | .indy, _ => none
  | .rel, t => (labelOperand lab t).map .target

/-- The operand cells emitted after the opcode at address `a` (45_assembler R234, R236). The limbs of a label at AM + 1
are 0 and 0: DESIGN CHOICE (log 16). -/
def OperandText.cells (w : Width) (a : Nat) : OperandText → List Word
  | .none => []
  | .cell v => [w.cell v]
  | .address v => [w.lo v, w.hi v]
  | .target v => [w.cellInt ((v : Int) - (a + 2))]

/-- The order in which the modes are tried (45_assembler R230). -/
def modeOrder : List Mode :=
  [.single, .imm, .zp, .zpx, .zpy, .abs, .absx, .absy, .ind, .indx, .indy, .rel]

/-- The cells of mnemonic `m` in `mode` with an operand text, where the table has that row and the pattern matches. -/
def encodeMode (w : Width) (lab : Text → Option Nat) (a : Nat) (m : Mnemonic) (operand : Text) (mode : Mode) :
    Option (List Word) :=
  match opcodeOf m mode, matchMode w lab mode operand with
  | some op, some o => some (w.cell op :: o.cells w a)
  | _, _ => none

/-- A mnemonic line's cells at address `a`: the first mode of the order that the mnemonic has and whose pattern
matches (45_assembler R229, R230, R236). -/
def encodeCode (w : Width) (lab : Text → Option Nat) (a : Nat) (s : Text) : Option (List Word) :=
  match mnemonicNamed (s.takeWhile isLetter) with
  | none => none
  | some m =>
    let operand := (s.dropWhile isLetter).filter fun c => c ≠ ' ' && c ≠ '\t'
    modeOrder.findSome? (encodeMode w lab a m operand)

/-! Lines (45_assembler R223). -/

/-- The label a line defines and the rest of the line, stripped again (45_assembler R225). -/
def labelPrefix (s : Text) : Option (Text × Text) :=
  let name := s.takeWhile isIdentChar
  match s.drop name.length with
  | ':' :: rest => if isIdentifier name then some (name, trim rest) else none
  | _ => none

/-- The stripped line without its label prefix. -/
def lineRest (s : Text) : Text :=
  match labelPrefix s with
  | some (_, rest) => rest
  | none => s

/-- The values of a DCB directive, from the text after the word (45_assembler R228). -/
def dcbValues : Text → Option (List Nat)
  | c :: cs => if isBlank c then (splitCommas cs).mapM fun t => parseNumber (trim t) else none
  | [] => none

/-- What the rest of a line is (45_assembler R223, R227, R228). -/
def lineBody (s : Text) : LineBody :=
  match s with
  | [] => .empty
  | '*' :: t =>
    match t.dropWhile isBlank with
    | '=' :: n => .origin (parseNumber (n.dropWhile isBlank))
    | _ => .code s
  | _ =>
    if (s.takeWhile isLetter).map upper = ['D', 'C', 'B'] then .dcb (dcbValues (s.dropWhile isLetter))
    else .code s

/-- The address of a label. -/
def lookupLabel (labels : List (Text × Nat)) (name : Text) : Option Nat :=
  (labels.find? fun l => l.1 == name).map (·.2)

/-! Pass 1 (45_assembler R237). -/

/-- The placeholder of every label reference in pass 1 (45_assembler R233). -/
def placeholder : Text → Option Nat := fun _ => some 0

/-- `measureLength`: the number of cells pass 2 would emit, 0 when the line cannot be encoded (45_assembler R237). -/
def measureLength (w : Width) (s : Text) : Nat :=
  ((encodeCode w placeholder 0 s).map List.length).getD 0

/-- The cursor after a line's body in pass 1. -/
def pass1Body (w : Width) (n : Nat) (s : Text) (cursor : Nat) : Except AsmError Nat :=
  match lineBody s with
  | .empty => .ok cursor
  | .origin (some v) => if v > w.addrMask then .error (.addressOutOfRange n s) else .ok v
  | .origin none => .ok cursor
  | .dcb (some vs) => .ok (cursor + vs.length)
  | .dcb none => .ok cursor
  | .code t => .ok (cursor + measureLength w t)

/-- The label table after a line's label prefix, which must be new (45_assembler R226). -/
def pass1Label (n : Nat) (s : Text) (labels : List (Text × Nat)) (cursor : Nat) :
    Except AsmError (List (Text × Nat)) :=
  match labelPrefix s with
  | none => .ok labels
  | some (name, _) =>
    if (lookupLabel labels name).isSome then .error (.labelConflict n name) else .ok (labels ++ [(name, cursor)])

/-- Pass 1 over numbered stripped lines: the complete label table (45_assembler R237). -/
def pass1 (w : Width) : List (Text × Nat) → List (Text × Nat) → Nat → Except AsmError (List (Text × Nat))
  | [], labels, _ => .ok labels
  | (s, n) :: ls, labels, cursor =>
    match pass1Label n s labels cursor with
    | .error e => .error e
    | .ok labels' =>
      match pass1Body w n (lineRest s) cursor with
      | .error e => .error e
      | .ok cursor' => pass1 w ls labels' cursor'

/-! Pass 2 (45_assembler R238). -/

/-- The cells a line emits at the cursor, or the error of a line that cannot be encoded. -/
def lineCells (w : Width) (labels : List (Text × Nat)) (n : Nat) (s : Text) (cursor : Nat) :
    Except AsmError (List Word) :=
  match lineBody s with
  | .empty => .ok []
  | .origin (some _) => .ok []
  | .origin none => .error (.assembly n s)
  | .dcb (some vs) => .ok (vs.map w.cell)
  | .dcb none => .error (.assembly n s)
  | .code t =>
    match encodeCode w (lookupLabel labels) cursor t with
    | some cs => .ok cs
    | none => .error (.assembly n s)

/-- The cursor at which a line emits: an origin directive moves it (45_assembler R224, R227). -/
def lineCursor (s : Text) (cursor : Nat) : Nat :=
  match lineBody s with
  | .origin (some v) => v
  | _ => cursor

/-- Emission of a line's cells at the cursor, one address each; none above AM (45_assembler R243). -/
def emitCells (w : Width) (n : Nat) (s : Text) :
    List Word → Nat → List (Nat × Word) → Except AsmError (Nat × List (Nat × Word))
  | [], cursor, out => .ok (cursor, out)
  | c :: cs, cursor, out =>
    if cursor > w.addrMask then .error (.addressOutOfRange n s)
    else emitCells w n s cs (cursor + 1) (out ++ [(cursor, c)])

/-- Pass 2 over numbered stripped lines: the final cursor and the cells emitted (45_assembler R238). -/
def pass2 (w : Width) (labels : List (Text × Nat)) :
    List (Text × Nat) → Nat → List (Nat × Word) → Except AsmError (Nat × List (Nat × Word))
  | [], cursor, out => .ok (cursor, out)
  | (s, n) :: ls, cursor, out =>
    match lineCells w labels n (lineRest s) cursor with
    | .error e => .error e
    | .ok cells =>
      match emitCells w n (lineRest s) cells (lineCursor (lineRest s) cursor) out with
      | .error e => .error e
      | .ok (cursor', out') => pass2 w labels ls cursor' out'

/-! The whole assembly. -/

/-- The stripped lines with their 1-based numbers (45_assembler R222). -/
def numberedLines (text : Text) : List (Text × Nat) :=
  ((splitLines text).map stripLine).zipIdx 1

/-- The program of the emitted cells: not empty, and with a sentinel that fits below AM (45_assembler R238, R240,
R242, R243). -/
def finishProgram (w : Width) (labels : List (Text × Nat)) (lines : List (Text × Nat)) (cursor : Nat)
    (out : List (Nat × Word)) : Except AsmError Program :=
  if out = [] then .error .emptyProgram
  else if cursor > w.addrMask then
    .error (.addressOutOfRange lines.length (lineRest ((lines.getLast?.map (·.1)).getD [])))
  else .ok { labels := labels, cells := out ++ [(cursor, 0)], codeLength := out.length, cursor := cursor }

/-- The two passes (45_assembler R220, R245). -/
def assembleText (w : Width) (origin : Nat) (text : Text) : Except AsmError Program :=
  match pass1 w (numberedLines text) [] origin with
  | .error e => .error e
  | .ok labels =>
    match pass2 w labels (numberedLines text) origin [] with
    | .error e => .error e
    | .ok (cursor, out) => finishProgram w labels (numberedLines text) cursor out

/-- The event that reports an assembly error, where there is one (45_assembler R244). -/
def AsmError.event : AsmError → Option Event
  | .labelConflict n name => some (.onLabelConflict n name)
  | .assembly n s => some (.onAssembleError n s)
  | .addressOutOfRange n s => some (.onAssembleError n s)
  | .emptyProgram => none

/-- Commit: reset, then every cell through the store in order; the label table and the length are replaced
(45_assembler R241). -/
def State.commit (s : State) (prog : Program) : State :=
  { prog.cells.foldl (fun t c => t.store c.1 c.2) s.doReset with
    labels := prog.labels, codeLength := prog.codeLength, cursor := prog.cursor }

/-- A failed assembly: the error is reported and the label table discarded; nothing else changes (45_assembler
R246). -/
def State.failAssembly (s : State) (e : AsmError) : State :=
  { (match e.event with | some ev => s.emit ev | none => s) with labels := [] }

/-- `assemble(text)`: the state after it, and the error if it failed (45_assembler R220). -/
def State.assemble (s : State) (text : Text) : State × Option AsmError :=
  match assembleText s.width s.origin.toNat text with
  | .ok prog => (s.commit prog, none)
  | .error e => (s.failAssembly e, some e)

end Sys2Proof.Machine
end

