-- ==== Sys2Proof/Machine/Disassembler.lean ====
section
/-! DEFINITION. The disassembler and the memory dump: read-only text of memory (46_disassembler). -/

namespace Sys2Proof.Machine

/-- The `n` cells from address `a` on (46_disassembler R261). -/
def State.cellsAt (s : State) (a n : Nat) : List Word :=
  (List.range n).map fun k => s.read (s.width.addr (a + k))

/-- The instruction at address `a`, or none for an unmapped cell (46_disassembler R260, R262). -/
def State.instrAt (s : State) (a : Nat) : Option Instr :=
  match decode (s.cellsAt a 3) with
  | .ok (i, _) => some i
  | .error _ => none

/-- An address in `aw/4` digits, after `$`. -/
def addressText (w : Width) (a : Nat) : Text := '$' :: hexDigits (w.aw / 4) a

/-- A cell in `dw/4` digits. -/
def cellText (w : Width) (v : Word) : Text := hexDigits (w.dw / 4) v.toNat

/-- The target of a branch at `a` with offset cell `d`: `(a + 2 + signed(d)) AND AM` (46_disassembler R263). -/
def branchTarget (w : Width) (a : Nat) (d : Word) : Nat :=
  (((a : Int) + 2 + w.signed d) % (2 ^ w.aw : Nat)).toNat

/-- The operand text of an instruction at address `a`, if its mode has one (46_disassembler R264, R265). -/
def operandText (w : Width) (a : Nat) : Operand → Option Text
  | .single => none
  | .imm v => some ('#' :: '$' :: cellText w v)
  | .mem (.zp z) => some ('$' :: cellText w z)
  | .mem (.zpx z) => some ('$' :: cellText w z ++ [',', 'X'])
  | .mem (.zpy z) => some ('$' :: cellText w z ++ [',', 'Y'])
  | .mem (.abs lo hi) => some (addressText w (w.word lo hi))
  | .mem (.absx lo hi) => some (addressText w (w.word lo hi) ++ [',', 'X'])
  | .mem (.absy lo hi) => some (addressText w (w.word lo hi) ++ [',', 'Y'])
  | .ind lo hi => some ('(' :: addressText w (w.word lo hi) ++ [')'])
  | .mem (.indx z) => some ('(' :: '$' :: cellText w z ++ [',', 'X', ')'])
  | .mem (.indy z) => some ('(' :: '$' :: cellText w z ++ [')', ',', 'Y'])
  | .rel d => some (addressText w (branchTarget w a d))

/-- A text padded with spaces to a width. -/
def padTo (n : Nat) (t : Text) : Text := t ++ List.replicate (n - t.length) ' '

/-- The cells of an instruction, separated by a space and padded to the width of three cells (46_disassembler R265). -/
def cellsField (w : Width) (cs : List Word) : Text :=
  padTo (3 * (w.dw / 4) + 2) ((cs.map (cellText w)).intersperse [' ']).flatten

/-- The mnemonic and the operand of a line; an unmapped cell shows as `???` (46_disassembler R262, R265). -/
def instrText (w : Width) (a : Nat) : Option Instr → Text
  | none => ['?', '?', '?']
  | some i =>
    mnemonicName i.mnemonic ++
      match operandText w a i.operand with
      | none => []
      | some t => ' ' :: t

/-- The length of what the disassembler shows at an address: an unmapped cell counts 1 (46_disassembler R261, R262). -/
def shownLength : Option Instr → Nat
  | none => 1
  | some i => i.length

/-- One line of the disassembly (46_disassembler R265). -/
def State.disasmLine (s : State) (a : Nat) : Text :=
  addressText s.width a ++ [' ', ' '] ++
    cellsField s.width (s.cellsAt a (shownLength (s.instrAt a))) ++ [' ', ' ', ' '] ++
    instrText s.width a (s.instrAt a)

/-- The walk from `a`, strictly forward, below `stop` and not above AM; at most `fuel` lines (46_disassembler R267). -/
def State.walk (s : State) (stop : Nat) : Nat → Nat → List Text
  | 0, _ => []
  | fuel + 1, a =>
    if a < stop ∧ a ≤ s.width.addrMask then
      s.disasmLine a :: s.walk stop fuel (a + shownLength (s.instrAt a))
    else []

/-- `disassemble()`: from ORIGIN to ORIGIN + codeLength; each line advances by at least 1 (46_disassembler R267). -/
def State.disassemble (s : State) : List Text :=
  s.walk (s.origin.toNat + s.codeLength) s.codeLength s.origin.toNat

/-- One line of a dump: the address, a colon, and `n` cells (46_disassembler R269). -/
def State.dumpLine (s : State) (a n : Nat) : Text :=
  addressText s.width (s.width.addr a) ++ [':'] ++
    ((s.cellsAt a n).map fun v => ' ' :: cellText s.width v).flatten

/-- `dump(start, n)`: 16 cells a line (46_disassembler R269). -/
def State.dump (s : State) (start n : Nat) : List Text :=
  (List.range ((n + 15) / 16)).map fun j => s.dumpLine (start + 16 * j) (min 16 (n - 16 * j))

end Sys2Proof.Machine
end

