-- ==== Sys2Proof/Machine/HostOps.lean ====
section
/-! DEFINITION. The operations the host may perform between two steps, and what each answers (60_exceptions R281,
R293 to R298; 70_reset_and_hazards R314, R315, R319). -/

namespace Sys2Proof.Machine

/-- A session: nothing before the first `configure` (70_reset_and_hazards R315, 93 U17), then a state. -/
abbrev Session := Option State

/-- The registers the host can write (60_exceptions R295). -/
inductive Reg where
  | a | x | y | p | sp | pc
deriving DecidableEq, Repr

/-- The target of `goto`: a label name or a number (60_exceptions R297). -/
inductive GotoTarget where
  | label (name : Text)
  | number (n : Nat)
deriving DecidableEq, Repr

/-- The host operations (60_exceptions R295). -/
inductive HostOp where
  | configure (w : Nat)
  | assemble (text : Text)
  | reset
  | goto (target : GotoTarget)
  | step
  | run
  /-- One invocation of the host's periodic driver in run mode, of at most `batch` steps (60_exceptions R293). -/
  | driver (batch : Nat)
  | stop
  | key (k : Byte)
  | writeReg (r : Reg) (v : Nat)
  | writeMem (a v : Nat)
  | disassemble
  | dump (start n : Nat)
deriving DecidableEq, Repr

/-- The errors that are results of a host operation (60_exceptions R280). -/
inductive HostError where
  /-- ConfigurationError: an unsupported width (R281). -/
  | configuration (w : Nat)
  /-- An assembly error (45_assembler R244). -/
  | assembly (e : AsmError)
  /-- AddressOutOfRangeError of `goto` (R297). -/
  | addressOutOfRange (target : GotoTarget)
deriving DecidableEq, Repr

/-- Why a host operation is refused; the session is unchanged. All safe. -/
inductive HostRefusal where
  /-- Any operation but `configure` before the first `configure` (93 U17). -/
  | notConfigured
  /-- An operation not allowed while a run is in progress (60_exceptions R295, 70_reset_and_hazards R319). -/
  | running
  /-- `step` or `run` while Halted (60_exceptions R291). -/
  | halted
  /-- The driver while no run is in progress (log 9). -/
  | notRunning
  /-- A write to an address above AM: no such cell (20_memory R50). -/
  | noSuchCell
  /-- `configure` of a profile whose address space does not reach ORIGIN (00_scope R7; log 2). -/
  | originOutOfRange
deriving DecidableEq, Repr

/-- The registers a single step reports (60_exceptions R293). -/
structure RegisterReport where
  a : Word
  x : Word
  y : Word
  sp : Word
  pc : Word
  p : Word
deriving DecidableEq, Repr

/-- What a host operation answers. -/
inductive HostResult where
  | done
  | report (r : RegisterReport)
  | lines (ls : List Text)
  | error (e : HostError)
  | refused (r : HostRefusal)
deriving DecidableEq, Repr

/-- The supported widths (00_scope R5). -/
def widthOf : Nat → Option Width
  | 8 => some .w8
  | 16 => some .w16
  | 32 => some .w32
  | _ => none

/-- The launch state of a profile: the reset state, no labels, an empty trace (70_reset_and_hazards R314, R315;
log 11). The environment's draws go on from where they were. -/
def State.launch (w : Width) (origin : Word) (draws : List Byte) (drawCount : Nat) : State :=
  { State.reset with
    width := w, origin := origin, pc := origin, cursor := origin.toNat, draws := draws, drawCount := drawCount }

/-- The registers a single step reports (60_exceptions R293). -/
def State.report (s : State) : RegisterReport :=
  { a := s.a, x := s.x, y := s.y, sp := s.sp, pc := s.pc, p := s.p }

/-- Up to `n` steps, stopping early when a step is not taken (60_exceptions R293). -/
def State.runBatch : Nat → State → State
  | 0, s => s
  | n + 1, s =>
    match Machine.step s with
    | .next t => State.runBatch n t
    | .fault _ => s
    | .refused _ => s

/-- A write of a register by the host: reduced as every register write is (60_exceptions R295, 10_state R21, R26). -/
def State.writeReg (s : State) (r : Reg) (v : Nat) : State :=
  match r with
  | .a => s.setA (s.width.cell v)
  | .x => s.setX (s.width.cell v)
  | .y => s.setY (s.width.cell v)
  | .p => s.setP (s.width.cell v)
  | .sp => s.setSp (s.width.cell v)
  | .pc => s.setPc v

/-- The address a `goto` target names (60_exceptions R297). -/
def State.gotoAddr (s : State) : GotoTarget → Option Nat
  | .label name => lookupLabel s.labels name
  | .number n => some n

/-- `goto(target)` (60_exceptions R297). A label at AM + 1 is out of range: DESIGN CHOICE (log 16). -/
def State.goto (s : State) (target : GotoTarget) : State × HostResult :=
  match s.gotoAddr target with
  | some a =>
    if a ≤ s.width.addrMask then ({ s.setPc a with status := .ready }, .done)
    else (s, .error (.addressOutOfRange target))
  | none => (s, .error (.addressOutOfRange target))

/-- `key(k)` (60_exceptions R298). -/
def State.key (s : State) (k : Byte) : State := s.store keyAddr (k.setWidth 32)

/-- `configure(w)` in a session (60_exceptions R281, 70_reset_and_hazards R314). -/
def configureSession (w : Nat) (origin : Word) (draws : List Byte) (drawCount : Nat) (old : Session) :
    Session × HostResult :=
  match widthOf w with
  | none => (old, .error (.configuration w))
  | some width =>
    if origin.toNat ≤ width.addrMask then (some (State.launch width origin draws drawCount), .done)
    else (old, .refused .originOutOfRange)

/-- The single-step mode: one step, then the registers (60_exceptions R293). -/
def State.singleStep (s : State) : State × HostResult :=
  match Machine.step s with
  | .next t => (t, .report t.report)
  | .fault _ => (s, .refused .halted)
  | .refused _ => (s, .refused .halted)

/-- The operations allowed while a run is in progress (60_exceptions R295). -/
def HostOp.allowedRunning : HostOp → Bool
  | .driver _ | .stop | .key _ | .disassemble | .dump _ _ => true
  | .configure _ | .assemble _ | .reset | .goto _ | .step | .run | .writeReg _ _ | .writeMem _ _ => false

/-- One host operation in a configured session whose run-mode rule allows it (60_exceptions R295). -/
def hostApply (op : HostOp) (s : State) : Session × HostResult :=
  match op with
  | .configure w => configureSession w s.origin s.draws s.drawCount (some s)
  | .assemble text =>
    match s.assemble text with
    | (t, none) => (some t, .done)
    | (t, some e) => (some t, .error (.assembly e))
  | .reset => (some s.doReset, .done)
  | .goto target => let r := s.goto target; (some r.1, r.2)
  | .step => let r := s.singleStep; (some r.1, r.2)
  | .run => if s.status = .ready then (some { s with running := true }, .done) else (some s, .refused .halted)
  | .driver batch =>
    if s.running then
      let t := State.runBatch batch s
      (some { t with running := decide (t.status = .ready) }, .done)
    else (some s, .refused .notRunning)
  | .stop => (some { s with running := false }, .done)
  | .key k => (some (s.key k), .done)
  | .writeReg r v => (some (s.writeReg r v), .done)
  | .writeMem a v =>
    if a ≤ s.width.addrMask then (some (s.store a (s.width.cell v)), .done) else (some s, .refused .noSuchCell)
  | .disassemble => (some s, .lines s.disassemble)
  | .dump start n => (some s, .lines (s.dump start n))

/-- One host operation on a session (60_exceptions R295, R319; 93 U15, U17). -/
def hostStep (op : HostOp) : Session → Session × HostResult
  | none =>
    match op with
    | .configure w => configureSession w Config.bootOrigin [] 0 none
    | _ => (none, .refused .notConfigured)
  | some s =>
    if s.running && !op.allowedRunning then (some s, .refused .running) else hostApply op s

end Sys2Proof.Machine
end

