-- ==== Sys2Proof/Safety.lean ====
section
/-! DEFINITION. The terms claims are stated in: a state in range, the bits of P that always read 1, what a change
leaves alone, and what N and Z are set from. -/

namespace Sys2Proof.Machine

/-- Every register and cell of the state holds a value of its width, PC and ORIGIN are addresses, and memory is in
canonical form (00_scope R7, R10; 10_state R21, R26; 20_memory R50; log 3). -/
abbrev State.wf (s : State) : Prop :=
  s.width.fits s.a = true ∧ s.width.fits s.x = true ∧ s.width.fits s.y = true ∧ s.width.fits s.p = true ∧
  s.width.fits s.sp = true ∧ s.pc.toNat ≤ s.width.addrMask ∧ s.origin.toNat ≤ s.width.addrMask ∧
  s.width.fits s.randCell = true ∧ s.mem.wf s.width

/-- Bits 4 (B) and 5 of P read 1 (10_state R29). -/
abbrev State.breakBitsSet (s : State) : Prop := s.flagB = true ∧ s.flagUnused = true

/-- Every label name of the table stands once (45_assembler R221). -/
abbrev State.labelsUnique (s : State) : Prop := (s.labels.map (·.1)).Nodup

/-- A register by name (10_state R20). -/
def State.reg (s : State) : Reg → Word
  | .a => s.a
  | .x => s.x
  | .y => s.y
  | .p => s.p
  | .sp => s.sp
  | .pc => s.pc

/-- Everything outside the register file, memory and the trace is the same. -/
abbrev SameSession (s t : State) : Prop :=
  t.width = s.width ∧ t.origin = s.origin ∧ t.status = s.status ∧ t.labels = s.labels ∧ t.cursor = s.cursor ∧
  t.codeLength = s.codeLength ∧ t.running = s.running ∧ t.draws = s.draws ∧ t.drawCount = s.drawCount

/-- From `s` to `t` nothing changes but the registers `regs` (P apart), the bits `bits` of P and the cells at `cells`,
and exactly the events `events` are emitted, newest first. -/
def ChangesOnly (regs : List Reg) (bits cells : List Nat) (events : List Event) (s t : State) : Prop :=
  (∀ r, r ∉ regs → r ≠ .p → t.reg r = s.reg r) ∧
  (∀ k, k ∉ bits → t.p.getLsbD k = s.p.getLsbD k) ∧
  (∀ a, a ∉ cells → t.read a = s.read a) ∧
  t.trace = events ++ s.trace ∧
  SameSession s t

/-- N and Z of `t` are those of the value `v` in the profile of `s` (10_state R30). -/
def NZFrom (v : Word) (s t : State) : Prop :=
  t.flagZ = decide (v = 0) ∧ t.flagN = v.getLsbD (s.width.dw - 1)

/-- The bits of P that `SetNZ` writes (10_state R27, R30). -/
def nzBits (w : Width) : List Nat := [1, w.dw - 1]

/-- The bits of P that C, Z, V and N stand at (10_state R27). -/
def cznvBits (w : Width) : List Nat := [0, 1, w.dw - 2, w.dw - 1]

/-- The result and the carry out of a shift or rotate of `m` with carry in `c`, as numbers (42_inc_dec_shift R166 to
R169). -/
def shiftRule (w : Width) (mn : Mnemonic) (m : Nat) (c : Bool) : Nat × Bool :=
  match mn with
  | .asl => (m * 2 % 2 ^ w.dw, decide (2 ^ (w.dw - 1) ≤ m))
  | .lsr => (m / 2, decide (m % 2 = 1))
  | .rol => (m * 2 % 2 ^ w.dw + bitNat c, decide (2 ^ (w.dw - 1) ≤ m))
  | .ror => (m / 2 + bitNat c * 2 ^ (w.dw - 1), decide (m % 2 = 1))
  | _ => (m, c)

/-- The condition each branch mnemonic tests (43_control R185 to R192). -/
def branchTaken (mn : Mnemonic) (s : State) : Option Bool :=
  match mn with
  | .bcc => some (!s.flagC)
  | .bcs => some s.flagC
  | .beq => some s.flagZ
  | .bne => some (!s.flagZ)
  | .bmi => some s.flagN
  | .bpl => some (!s.flagN)
  | .bvc => some (!s.flagV)
  | .bvs => some s.flagV
  | _ => none

/-- Rows 0x to 7x of the map of opcode values, left to right (30_encoding R101). -/
def opcodeMapLow : List (List (Option (Mnemonic × Mode))) := [
  [some (.brk, .single), some (.ora, .indx), none, none, none,
    some (.ora, .zp), some (.asl, .zp), none, some (.php, .single), some (.ora, .imm),
    some (.asl, .single), none, none, some (.ora, .abs), some (.asl, .abs),
    none],
  [some (.bpl, .rel), some (.ora, .indy), none, none, none,
    some (.ora, .zpx), some (.asl, .zpx), none, some (.clc, .single), some (.ora, .absy),
    none, none, none, some (.ora, .absx), some (.asl, .absx),
    none],
  [some (.jsr, .abs), some (.and, .indx), none, none, some (.bit, .zp),
    some (.and, .zp), some (.rol, .zp), none, some (.plp, .single), some (.and, .imm),
    some (.rol, .single), none, some (.bit, .abs), some (.and, .abs), some (.rol, .abs),
    none],
  [some (.bmi, .rel), some (.and, .indy), none, none, none,
    some (.and, .zpx), some (.rol, .zpx), none, some (.sec, .single), some (.and, .absy),
    none, none, none, some (.and, .absx), some (.rol, .absx),
    none],
  [some (.rti, .single), some (.eor, .indx), none, none, none,
    some (.eor, .zp), some (.lsr, .zp), none, some (.pha, .single), some (.eor, .imm),
    some (.lsr, .single), none, some (.jmp, .abs), some (.eor, .abs), some (.lsr, .abs),
    none],
  [some (.bvc, .rel), some (.eor, .indy), none, none, none,
    some (.eor, .zpx), some (.lsr, .zpx), none, some (.cli, .single), some (.eor, .absy),
    none, none, none, some (.eor, .absx), some (.lsr, .absx),
    none],
  [some (.rts, .single), some (.adc, .indx), none, none, none,
    some (.adc, .zp), some (.ror, .zp), none, some (.pla, .single), some (.adc, .imm),
    some (.ror, .single), none, some (.jmp, .ind), some (.adc, .abs), some (.ror, .abs),
    none],
  [some (.bvs, .rel), some (.adc, .indy), none, none, none,
    some (.adc, .zpx), some (.ror, .zpx), none, some (.sei, .single), some (.adc, .absy),
    none, none, none, some (.adc, .absx), some (.ror, .absx),
    none]]

/-- Rows 8x to Fx of the map of opcode values, left to right (30_encoding R101). -/
def opcodeMapHigh : List (List (Option (Mnemonic × Mode))) := [
  [none, some (.sta, .indx), none, none, some (.sty, .zp),
    some (.sta, .zp), some (.stx, .zp), none, some (.dey, .single), none,
    some (.txa, .single), none, some (.sty, .abs), some (.sta, .abs), some (.stx, .abs),
    none],
  [some (.bcc, .rel), some (.sta, .indy), none, none, some (.sty, .zpx),
    some (.sta, .zpx), some (.stx, .zpy), none, some (.tya, .single), some (.sta, .absy),
    some (.txs, .single), none, none, some (.sta, .absx), none,
    none],
  [some (.ldy, .imm), some (.lda, .indx), some (.ldx, .imm), none, some (.ldy, .zp),
    some (.lda, .zp), some (.ldx, .zp), none, some (.tay, .single), some (.lda, .imm),
    some (.tax, .single), none, some (.ldy, .abs), some (.lda, .abs), some (.ldx, .abs),
    none],
  [some (.bcs, .rel), some (.lda, .indy), none, none, some (.ldy, .zpx),
    some (.lda, .zpx), some (.ldx, .zpy), none, some (.clv, .single), some (.lda, .absy),
    some (.tsx, .single), none, some (.ldy, .absx), some (.lda, .absx), some (.ldx, .absy),
    none],
  [some (.cpy, .imm), some (.cmp, .indx), none, none, some (.cpy, .zp),
    some (.cmp, .zp), some (.dec, .zp), none, some (.iny, .single), some (.cmp, .imm),
    some (.dex, .single), none, some (.cpy, .abs), some (.cmp, .abs), some (.dec, .abs),
    none],
  [some (.bne, .rel), some (.cmp, .indy), none, none, none,
    some (.cmp, .zpx), some (.dec, .zpx), none, some (.cld, .single), some (.cmp, .absy),
    none, none, none, some (.cmp, .absx), some (.dec, .absx),
    none],
  [some (.cpx, .imm), some (.sbc, .indx), none, none, some (.cpx, .zp),
    some (.sbc, .zp), some (.inc, .zp), none, some (.inx, .single), some (.sbc, .imm),
    some (.nop, .single), none, some (.cpx, .abs), some (.sbc, .abs), some (.inc, .abs),
    none],
  [some (.beq, .rel), some (.sbc, .indy), none, none, none,
    some (.sbc, .zpx), some (.inc, .zpx), none, some (.sed, .single), some (.sbc, .absy),
    none, none, none, some (.sbc, .absx), some (.inc, .absx),
    none]]

/-- The 16 by 16 map of opcode values (30_encoding R101). -/
def opcodeMap : List (List (Option (Mnemonic × Mode))) := opcodeMapLow ++ opcodeMapHigh

/-- The modes of a mnemonic and its opcode in each, in the order of the table (30_encoding R100). -/
def encodings (m : Mnemonic) : List (Mode × Nat) :=
  (opcodeTable.filter fun r => r.mnemonic == m).map fun r => (r.mode, r.opcode)

end Sys2Proof.Machine
end

