-- ==== Sys2Proof/Certificates/Slice0/Obligations.lean ====
section
/-! DEFINITION. The statements for the provers. Each docstring names the rule of spec/ its statement formalises. -/

open Sys2Proof Sys2Proof.Machine

/-! ## Reset, configuration and invariants -/

/-- 70_reset_and_hazards R310 to R313, through the host's `reset` operation while no run is in progress: the stated
register values, PC at ORIGIN, every cell 0, status Ready; the width, ORIGIN, label table, `codeLength` and trace are
unchanged (reset emits no event). -/
def Obligations.ResetGivesTheStatedState : Prop :=
  ∀ s : State, s.origin.toNat ≤ s.width.addrMask → s.running = false →
    ∃ t, hostStep .reset (some s) = (some t, .done) ∧
      t.a = 0 ∧ t.x = 0 ∧ t.y = 0 ∧ t.sp = 0xFF ∧ t.p = 0x30 ∧ t.pc = s.origin ∧
      (∀ a, t.read a = 0) ∧ t.status = .ready ∧
      t.width = s.width ∧ t.origin = s.origin ∧ t.labels = s.labels ∧ t.codeLength = s.codeLength ∧
      t.trace = s.trace ∧
      hostStep .reset (some t) = (some t, .done)

/-- The state after reset is in range, its bits 4 and 5 of P are set, and it is the launch state of the boot profile:
`State.reset` is the model's choice of the 8-bit profile (log 1). -/
def Obligations.ResetStateIsInRange : Prop :=
  State.reset.wf ∧ State.reset.breakBitsSet ∧ State.reset.labelsUnique ∧
    State.reset = State.launch .w8 0x600 [] 0 ∧
    State.reset.p = 0x30 ∧ State.reset.sp = 0xFF ∧ State.reset.pc = 0x600 ∧ State.reset.status = .ready

/-- 00_scope R10, 10_state R21, R26, 20_memory R50: from every state in range a step that is taken gives a state in
range: registers and cells in `[0, DM]`, PC in `[0, AM]`, memory in canonical form (log 3). -/
def Obligations.StepKeepsTheStateInRange : Prop :=
  ∀ s t : State, s.wf → step s = .next t → t.wf

/-- 10_state R29: bits 4 and 5 of P stay set under every step. -/
def Obligations.StepKeepsTheBreakBitsSet : Prop :=
  ∀ s t : State, s.wf → s.breakBitsSet → step s = .next t → t.breakBitsSet

/-- Every host operation, the assembler's commit and a configuration among them, keeps the state in range and the
label names distinct, and never loses a configured session (60_exceptions section 5, R293 to R298; 45_assembler R221). -/
def Obligations.HostOperationsKeepTheStateInRange : Prop :=
  ∀ (op : HostOp) (s : State), s.wf → s.labelsUnique →
    ∃ t r, hostStep op (some s) = (some t, r) ∧ t.wf ∧ t.labelsUnique

/-- 60_exceptions R281 and 70_reset_and_hazards R314, R315: a supported width gives the launch state of that profile,
whatever the old state held, and from no session the launch state at the default ORIGIN; an unsupported one is
ConfigurationError and changes nothing. ORIGIN must lie in the new address space (log 2); the trace is empty (log 11);
the cursor is at ORIGIN (log 8); no run is in progress (log 9). -/
def Obligations.ConfigureGivesTheLaunchState : Prop :=
  (∀ (w : Nat) (s : State), s.running = false → w ≠ 8 → w ≠ 16 → w ≠ 32 →
    hostStep (.configure w) (some s) = (some s, .error (.configuration w))) ∧
  (∀ w : Nat, w ≠ 8 → w ≠ 16 → w ≠ 32 → hostStep (.configure w) none = (none, .error (.configuration w))) ∧
  (∀ (w : Width) (s : State), s.running = false → s.origin.toNat ≤ w.addrMask →
    ∃ t, hostStep (.configure w.dw) (some s) = (some t, .done) ∧
      t.width = w ∧ t.a = 0 ∧ t.x = 0 ∧ t.y = 0 ∧ t.sp = 0xFF ∧ t.p = 0x30 ∧ t.pc = s.origin ∧
      (∀ a, t.read a = 0) ∧ t.status = .ready ∧ t.labels = [] ∧ t.codeLength = 0 ∧ t.trace = [] ∧
      t.origin = s.origin ∧ t.cursor = s.origin.toNat ∧ t.running = false) ∧
  (∀ w : Width,
    ∃ t, hostStep (.configure w.dw) none = (some t, .done) ∧
      t.width = w ∧ t.a = 0 ∧ t.x = 0 ∧ t.y = 0 ∧ t.sp = 0xFF ∧ t.p = 0x30 ∧ t.pc = 0x600 ∧
      (∀ a, t.read a = 0) ∧ t.status = .ready ∧ t.labels = [] ∧ t.codeLength = 0 ∧ t.trace = [] ∧
      t.origin = 0x600 ∧ t.cursor = 0x600 ∧ t.running = false)

/-! ## Encoding -/

/-- 30_encoding R81, R100, R102: decoding the cells of an instruction gives it back whatever follows, and every list of
cells that decodes is the encoding of what it decodes to, followed by the rest. -/
def Obligations.DecodeAndEncodeAgree : Prop :=
  (∀ (i : Instr) (rest : List Word), decode (i.encode ++ rest) = .ok (i, rest)) ∧
  (∀ (cells : List Word) (i : Instr) (rest : List Word),
    decode cells = .ok (i, rest) → cells = i.encode ++ rest) ∧
  (∀ i : Instr, i.encode.length = i.length ∧ 1 ≤ i.length ∧ i.length ≤ 3)

/-- 30_encoding R100, R101: cells written out from the opcode map decode to the instructions they stand for. -/
def Obligations.CellsOfTheOpcodeMapDecode : Prop :=
  decode [0xA9, 0x80] = .ok (.ldaImm 0x80, []) ∧ decode [0x96, 0xFF] = .ok (.stxZpy 0xFF, []) ∧
  decode [0x7D, 0xF0, 0x12] = .ok (.adcAbsx 0xF0 0x12, []) ∧ decode [0xF1, 0x10] = .ok (.sbcIndy 0x10, []) ∧
  decode [0x2C, 0x34, 0x12] = .ok (.bitAbs 0x34 0x12, []) ∧ decode [0x6A] = .ok (.rorAcc, []) ∧
  decode [0xFE, 0x00, 0x02] = .ok (.incAbsx 0x00 0x02, []) ∧ decode [0x6C, 0xFF, 0x02] = .ok (.jmpInd 0xFF 0x02, []) ∧
  decode [0x20, 0x34, 0x12] = .ok (.jsrAbs 0x34 0x12, []) ∧ decode [0xD0, 0xFD] = .ok (.bne 0xFD, []) ∧
  decode [0x00] = .ok (.brk, []) ∧ decode [0x28] = .ok (.plp, []) ∧ decode [0x78] = .ok (.sei, []) ∧
  decode [0x02] = .error (.unknownOpcode 0x02)

/-- 30_encoding R101: the opcode table is the 16 by 16 map, 105 of whose values are unmapped, and so is every opcode
cell above 0xFF, which is compared whole, never masked (R80); every instruction's opcode cell is one its mnemonic has in
its mode (R100). -/
def Obligations.OnlyTheTableOpcodesDecode : Prop :=
  (∀ h : Nat, h < 16 → ∀ l : Nat, l < 16 →
    (lookupOpcode (16 * h + l)).map (fun r => (r.mnemonic, r.mode)) = ((opcodeMap.getD h []).getD l none)) ∧
  ((List.range 256).filter fun n => (lookupOpcode n).isNone).length = 105 ∧
  (∀ (op : Word) (cells : List Word), 0x100 ≤ op.toNat → decode (op :: cells) = .error (.unknownOpcode op)) ∧
  (∀ i : Instr, (i.operand.mode, i.opcode.toNat) ∈ encodings i.mnemonic)

/-! ## The step -/

/-- 30_encoding R83: a step in status Ready refreshes cell 0xFE, decodes the cells at PC, runs `exec` of the decoded
instruction with PC past its cells, and ends with the PC-zero check. -/
def Obligations.StepRunsTheDecodedInstruction : Prop :=
  ∀ (s : State) (i : Instr) (rest : List Word), s.status = .ready →
    decode s.refresh.fetchCells = .ok (i, rest) →
    ∃ t, exec i (s.refresh.advance i.length) = .next t ∧
      step s = .next (if t.status = .ready ∧ t.pc = 0 then t.halt .pcZero 0 else t)

/-- 20_memory R70, 30_encoding R84: the cells of a well-formed instruction that stand in memory from PC on, cell 0xFE
not among them, are what the next step fetches and runs. -/
def Obligations.StepRunsTheInstructionInMemory : Prop :=
  ∀ (s : State) (i : Instr), s.wf → s.status = .ready → i.wf s.width = true →
    (∀ (k : Nat) (c : Word), i.encode[k]? = some c →
      s.width.addr (s.pc.toNat + k) ≠ 0xFE ∧ s.read (s.width.addr (s.pc.toNat + k)) = c) →
    ∃ t, exec i (s.refresh.advance i.length) = .next t ∧
      step s = .next (if t.status = .ready ∧ t.pc = 0 then t.halt .pcZero 0 else t)

/-- 20_memory R61 and 30_encoding R83: what a step does before the fetch. Cell 0xFE holds the draw, a value in
[0, 255], and the first event of the step is `onMemoryWrite(0xFE, r)`; no register and no other cell changes. The
draw is the environment's (log 5): nothing is said of its value beyond its range. -/
def Obligations.StepRefreshesTheRandomCellFirst : Prop :=
  ∀ s : State, s.wf →
    s.refresh.read 0xFE = s.draw.setWidth 32 ∧ (s.refresh.read 0xFE).toNat ≤ 255 ∧
    (∀ r, s.refresh.reg r = s.reg r) ∧ (∀ a, a ≠ 0xFE → s.refresh.read a = s.read a) ∧
    s.refresh.trace = .onMemoryWrite 0xFE (s.draw.setWidth 32) :: s.trace ∧
    (∀ t, step s = .next t →
      ∃ later, t.trace = later ++ .onMemoryWrite 0xFE (s.draw.setWidth 32) :: s.trace)

/-- 30_encoding R98: an opcode cell that is not in the table halts the run and reports its address; no register but PC
(which is past the cell), no cell but 0xFE and nothing else of the session changes, but for the draw the refresh takes;
the step's only events are the refresh and the halt. -/
def Obligations.UnknownOpcodeHalts : Prop :=
  ∀ s : State, s.wf → s.status = .ready → lookupOpcode (s.refresh.read s.pc.toNat).toNat = none →
    ∃ t, step s = .next t ∧ t.status = .halted .unknownOpcode s.pc ∧
      t.pc.toNat = (s.pc.toNat + 1) % 2 ^ s.width.aw ∧
      (∀ r, r ≠ .pc → t.reg r = s.reg r) ∧ (∀ a, a ≠ 0xFE → t.read a = s.read a) ∧
      t.trace = [.onHalt s.pc .unknownOpcode, .onMemoryWrite 0xFE (s.draw.setWidth 32)] ++ s.trace ∧
      t.width = s.width ∧ t.origin = s.origin ∧ t.labels = s.labels ∧ t.cursor = s.cursor ∧
      t.codeLength = s.codeLength ∧ t.running = s.running

/-- 60_exceptions R291, R293 and 10_state R35: `step` is refused while Halted, the host's single step and run
too, and they change nothing. -/
def Obligations.HaltedCoreRefusesToStep : Prop :=
  ∀ (s : State) (r : HaltReason) (pc : Word), s.status = .halted r pc → s.running = false →
    step s = .refused .halted ∧ hostStep .step (some s) = (some s, .refused .halted) ∧
      hostStep .run (some s) = (some s, .refused .halted)

/-- 60_exceptions R286: after a step the core is Ready only with PC not 0; a PCZero halt has PC = 0 and reports 0;
every other halt reports the address the step began at; BRK halts only on opcode 0x00, UnimplementedFeature only on
CLI (0x58) and SEI (0x78), and UnknownOpcode only on a cell that is not in the opcode table. -/
def Obligations.HaltsReportTheirAddress : Prop :=
  ∀ s t : State, s.wf → step s = .next t →
    (t.status = .ready → t.pc ≠ 0) ∧
    (∀ pc, t.status = .halted .pcZero pc → pc = 0 ∧ t.pc = 0) ∧
    (∀ r pc, t.status = .halted r pc → r ≠ .pcZero → pc = s.pc) ∧
    (∀ pc, t.status = .halted .brk pc → s.refresh.read s.pc.toNat = 0x00) ∧
    (∀ pc, t.status = .halted .unimplementedFeature pc →
      s.refresh.read s.pc.toNat = 0x58 ∨ s.refresh.read s.pc.toNat = 0x78) ∧
    (∀ pc, t.status = .halted .unknownOpcode pc → lookupOpcode (s.refresh.read s.pc.toNat).toNat = none)

/-! ## Addressing modes -/

/-- 30_encoding R87 to R95 and R90, R93: the effective address of every memory mode, as numbers. -/
def Obligations.EffectiveAddresses : Prop :=
  ∀ (s : State) (z lo hi : Word), s.wf → s.width.fits z = true →
    s.ea (.zp z) = z.toNat ∧
    s.ea (.zpx z) = (z.toNat + s.x.toNat) % 2 ^ s.width.dw ∧
    s.ea (.zpy z) = (z.toNat + s.y.toNat) % 2 ^ s.width.dw ∧
    s.ea (.abs lo hi) = s.width.word lo hi ∧
    s.ea (.absx lo hi) = (s.width.word lo hi + s.x.toNat) % 2 ^ s.width.aw ∧
    s.ea (.absy lo hi) = (s.width.word lo hi + s.y.toNat) % 2 ^ s.width.aw ∧
    (∀ p, p = (z.toNat + s.x.toNat) % 2 ^ s.width.dw →
      s.ea (.indx z) = s.width.word (s.read p) (s.read ((p + 1) % 2 ^ s.width.aw))) ∧
    s.ea (.indy z) =
      (s.width.word (s.read z.toNat) (s.read ((z.toNat + 1) % 2 ^ s.width.aw)) + s.y.toNat) % 2 ^ s.width.aw ∧
    (∀ p, p = s.width.word lo hi →
      s.indirectTarget lo hi = s.width.word (s.read p) (s.read ((p + 1) % 2 ^ s.width.aw)))

/-- 20_memory R51, R65: every effective address lies in the address space, and that of a zero-page mode in the zero
page. -/
def Obligations.EffectiveAddressesStayInTheAddressSpace : Prop :=
  ∀ (s : State) (i : Instr) (o : MemOperand), s.wf → i.wf s.width = true → i.operand = .mem o →
    s.ea o ≤ s.width.addrMask ∧
    (o.mode = .zp ∨ o.mode = .zpx ∨ o.mode = .zpy → s.ea o ≤ s.width.dataMask)

/-- 20_memory R54 to R56: a word is the little-endian value of its two cells, exactly at dw = 8 and 16 and the low cell
alone at dw = 32; splitting an address into limbs and joining them gives it back; at dw = 32 the high limb is 0 and the
assembler writes 0 in its cell (30_encoding R103, 45_assembler R235, R236), also for a label at AM + 1 (log 16);
ReadWord takes its second cell at `(a + 1) AND AM`. -/
def Obligations.WordsAreLittleEndianPairs : Prop :=
  (∀ (w : Width) (lo hi : Word), w ≠ .w32 → w.fits lo = true → w.fits hi = true →
    w.word lo hi = lo.toNat + hi.toNat * 2 ^ w.dw) ∧
  (∀ lo hi : Word, Width.word .w32 lo hi = lo.toNat) ∧
  (∀ (w : Width) (v : Nat), v ≤ w.addrMask → w.word (w.lo v) (w.hi v) = v) ∧
  (∀ v : Nat, Width.hi .w32 v = 0) ∧
  (∀ a v : Nat, (OperandText.address v).cells .w32 a = [Width.lo .w32 v, 0]) ∧
  (∀ (s : State) (a : Nat), s.readWord a = s.width.word (s.read a) (s.read ((a + 1) % 2 ^ s.width.aw)))

/-! ## Memory -/

/-- 20_memory R52, R67: a store masks its value, the cell reads as stored, every other cell reads as before, and exactly
one onMemoryWrite event is emitted, with the masked value; no register changes. -/
def Obligations.StoreWritesOneCellAndEmits : Prop :=
  ∀ (s : State) (a : Nat) (v : Word), s.wf → a ≤ s.width.addrMask →
    (s.store a v).wf ∧ (s.store a v).read a = s.width.cell v.toNat ∧
      ChangesOnly [] [] [a] [.onMemoryWrite a (s.width.cell v.toNat)] s (s.store a v)

/-! ## Loads, stores and transfers -/

/-- 40_load_store_transfer R120 to R122: every form of LDA, LDX and LDY loads the operand's value and sets N and Z from
it; nothing else changes. -/
def Obligations.LoadsSetTheRegisterAndNZ : Prop :=
  encodings .lda = [(.imm, 0xA9), (.zp, 0xA5), (.zpx, 0xB5), (.abs, 0xAD), (.absx, 0xBD), (.absy,
    0xB9), (.indx, 0xA1), (.indy, 0xB1)] ∧
  encodings .ldx = [(.imm, 0xA2), (.zp, 0xA6), (.zpy, 0xB6), (.abs, 0xAE), (.absy, 0xBE)] ∧
  encodings .ldy = [(.imm, 0xA0), (.zp, 0xA4), (.zpx, 0xB4), (.abs, 0xAC), (.absx, 0xBC)] ∧
  ∀ (i : Instr) (s : State), s.wf → i.wf s.width = true →
    (i.mnemonic = .lda → ∃ m t, s.operandValue i.operand = some m ∧ exec i s = .next t ∧
      t.a = m ∧ NZFrom m s t ∧ ChangesOnly [.a] (nzBits s.width) [] [] s t) ∧
    (i.mnemonic = .ldx → ∃ m t, s.operandValue i.operand = some m ∧ exec i s = .next t ∧
      t.x = m ∧ NZFrom m s t ∧ ChangesOnly [.x] (nzBits s.width) [] [] s t) ∧
    (i.mnemonic = .ldy → ∃ m t, s.operandValue i.operand = some m ∧ exec i s = .next t ∧
      t.y = m ∧ NZFrom m s t ∧ ChangesOnly [.y] (nzBits s.width) [] [] s t)

/-- 40_load_store_transfer R123 to R125: every form of STA, STX and STY stores the register in the cell at its effective
address and emits one event; no register, no flag and no other cell changes. -/
def Obligations.StoresWriteTheRegister : Prop :=
  encodings .sta = [(.zp, 0x85), (.zpx, 0x95), (.abs, 0x8D), (.absx, 0x9D), (.absy, 0x99), (.indx,
    0x81), (.indy, 0x91)] ∧
  encodings .stx = [(.zp, 0x86), (.zpy, 0x96), (.abs, 0x8E)] ∧
  encodings .sty = [(.zp, 0x84), (.zpx, 0x94), (.abs, 0x8C)] ∧
  ∀ (i : Instr) (s : State), s.wf → i.wf s.width = true →
    (i.mnemonic = .sta → ∃ o t, i.operand = .mem o ∧ exec i s = .next t ∧ t.read (s.ea o) = s.a ∧
      ChangesOnly [] [] [s.ea o] [.onMemoryWrite (s.ea o) s.a] s t) ∧
    (i.mnemonic = .stx → ∃ o t, i.operand = .mem o ∧ exec i s = .next t ∧ t.read (s.ea o) = s.x ∧
      ChangesOnly [] [] [s.ea o] [.onMemoryWrite (s.ea o) s.x] s t) ∧
    (i.mnemonic = .sty → ∃ o t, i.operand = .mem o ∧ exec i s = .next t ∧ t.read (s.ea o) = s.y ∧
      ChangesOnly [] [] [s.ea o] [.onMemoryWrite (s.ea o) s.y] s t)

/-- 40_load_store_transfer R126 to R131: the transfers copy a register; all but TXS set N and Z from it; nothing else
changes. -/
def Obligations.TransfersCopyARegister : Prop :=
  encodings .tax = [(.single, 0xAA)] ∧ encodings .tay = [(.single, 0xA8)] ∧ encodings .txa = [(.single, 0x8A)] ∧
  encodings .tya = [(.single, 0x98)] ∧ encodings .tsx = [(.single, 0xBA)] ∧ encodings .txs = [(.single, 0x9A)] ∧
  ∀ s : State, s.wf →
    (∃ t, exec .tax s = .next t ∧ t.x = s.a ∧ NZFrom s.a s t ∧ ChangesOnly [.x] (nzBits s.width) [] [] s t) ∧
    (∃ t, exec .tay s = .next t ∧ t.y = s.a ∧ NZFrom s.a s t ∧ ChangesOnly [.y] (nzBits s.width) [] [] s t) ∧
    (∃ t, exec .txa s = .next t ∧ t.a = s.x ∧ NZFrom s.x s t ∧ ChangesOnly [.a] (nzBits s.width) [] [] s t) ∧
    (∃ t, exec .tya s = .next t ∧ t.a = s.y ∧ NZFrom s.y s t ∧ ChangesOnly [.a] (nzBits s.width) [] [] s t) ∧
    (∃ t, exec .tsx s = .next t ∧ t.x = s.sp ∧ NZFrom s.sp s t ∧ ChangesOnly [.x] (nzBits s.width) [] [] s t) ∧
    (∃ t, exec .txs s = .next t ∧ t.sp = s.x ∧ ChangesOnly [.sp] [] [] [] s t)

/-! ## Addition and subtraction -/

/-- 41_arithmetic_logic R140, R141: every form of ADC with D = 0, at every width: A is the sum with the carry reduced
modulo 2^dw, C is the carry out, V is the threshold rule on the exact sum `n`, N and Z come from A. -/
def Obligations.BinaryAdcAddsWithCarry : Prop :=
  ∀ (i : Instr) (s : State), s.wf → i.wf s.width = true → i.mnemonic = .adc → s.flagD = false →
    ∃ m t, s.operandValue i.operand = some m ∧ exec i s = .next t ∧
      (∀ n, n = s.a.toNat + m.toNat + bitNat s.flagC →
        t.a.toNat = n % 2 ^ s.width.dw ∧ t.flagC = decide (n ≥ 2 ^ s.width.dw) ∧
        t.flagV =
          (decide (s.width.msb s.a = s.width.msb m) &&
            if n ≥ 2 ^ s.width.dw then decide (n < 2 ^ s.width.dw + 2 ^ (s.width.dw - 1))
            else decide (n ≥ 2 ^ (s.width.dw - 1)))) ∧
      NZFrom t.a s t ∧ ChangesOnly [.a] (cznvBits s.width) [] [] s t

/-- 41_arithmetic_logic R144, R145: every form of SBC with D = 0, at every width, by the exact value
`n = DM + A - m + C`. -/
def Obligations.BinarySbcSubtractsWithBorrow : Prop :=
  ∀ (i : Instr) (s : State), s.wf → i.wf s.width = true → i.mnemonic = .sbc → s.flagD = false →
    ∃ m t, s.operandValue i.operand = some m ∧ exec i s = .next t ∧
      (∀ n : Int, n = (s.width.dataMask : Int) + s.a.toNat - m.toNat + bitNat s.flagC →
        (t.a.toNat : Int) = n % (2 ^ s.width.dw : Nat) ∧ t.flagC = decide (n ≥ (2 ^ s.width.dw : Nat)) ∧
        t.flagV =
          (decide (s.width.msb s.a ≠ s.width.msb m) &&
            if n < (2 ^ s.width.dw : Nat) then decide (n ≥ (2 ^ (s.width.dw - 1) : Nat))
            else decide (n < (2 ^ s.width.dw + 2 ^ (s.width.dw - 1) : Nat)))) ∧
      NZFrom t.a s t ∧ ChangesOnly [.a] (cznvBits s.width) [] [] s t

/-- The law of binary addition and subtraction, which 41_arithmetic_logic derives from its algorithms (R142): V is set
iff the signed result lies outside `[-SB, SB - 1]`, and subtracting `m` is adding `DM - m`. -/
def Obligations.OverflowIsSignedOverflow : Prop :=
  ∀ (w : Width) (a m : Word) (c : Bool), w.fits a = true → w.fits m = true →
    (addBinary w a m c).overflow =
      decide (w.signed a + w.signed m + bitNat c < -(w.signBit : Int) ∨
        w.signed a + w.signed m + bitNat c > (w.signBit : Int) - 1) ∧
    (subBinary w a m c).overflow =
      decide (w.signed a - w.signed m - (1 - bitNat c) < -(w.signBit : Int) ∨
        w.signed a - w.signed m - (1 - bitNat c) > (w.signBit : Int) - 1) ∧
    (subBinary w a m c).carry = decide (a.toNat ≥ m.toNat + (1 - bitNat c)) ∧
    subBinary w a m c = addBinary w a (w.cell (w.dataMask - m.toNat)) c

/-- 41_arithmetic_logic R143, R146 at dw = 8 with D = 1. First, for every operand, invalid digits included (93 U1): the
threshold algorithms as numbers, with A, C and V. Then, for valid BCD operands, which the spec derives from them: ADC and
SBC add and subtract the two-digit decimal numbers their operands denote, modulo 100, with C the decimal carry or no
borrow. N and Z come from the value written to A. -/
def Obligations.DecimalModeAddsBcdDigits : Prop :=
  (∀ (i : Instr) (s : State), s.wf → i.wf s.width = true → s.width = .w8 → s.flagD = true →
    (i.mnemonic = .adc → ∃ m t, s.operandValue i.operand = some m ∧ exec i s = .next t ∧
      (∀ lo0 lo n, lo0 = s.a.toNat % 16 + m.toNat % 16 + bitNat s.flagC →
        lo = (if lo0 ≥ 10 then 16 + (lo0 + 6) % 16 else lo0) →
        n = lo + s.a.toNat / 16 * 16 + m.toNat / 16 * 16 →
        t.a.toNat = (if n ≥ 160 then n + 0x60 else n) % 256 ∧ t.flagC = decide (n ≥ 160) ∧
        t.flagV = (decide (s.width.msb s.a = s.width.msb m) &&
          if n ≥ 160 then decide (n < 0x180) else decide (n ≥ 0x80))) ∧
      NZFrom t.a s t ∧ ChangesOnly [.a] (cznvBits s.width) [] [] s t) ∧
    (i.mnemonic = .sbc → ∃ m t, s.operandValue i.operand = some m ∧ exec i s = .next t ∧
      (∀ lo0 lo n : Int, lo0 = 15 + (s.a.toNat % 16 : Nat) - (m.toNat % 16 : Nat) + bitNat s.flagC →
        lo = (if lo0 < 16 then lo0 - 6 else lo0 - 16) →
        n = (if lo0 < 16 then 0 else 16) + 0xF0 + (s.a.toNat / 16 * 16 : Nat) - (m.toNat / 16 * 16 : Nat) →
        (t.a.toNat : Int) = ((if n < 0x100 then n - 0x60 else n) + lo) % 256 ∧ t.flagC = decide (n ≥ 0x100) ∧
        t.flagV = (decide (s.width.msb s.a ≠ s.width.msb m) &&
          if n < 0x100 then decide (n ≥ 0x80) else decide (n < 0x180))) ∧
      NZFrom t.a s t ∧ ChangesOnly [.a] (cznvBits s.width) [] [] s t)) ∧
  ∀ (i : Instr) (s : State) (a m : Nat), s.wf → i.wf s.width = true → s.width = .w8 → s.flagD = true →
    a < 100 → m < 100 → s.a.toNat = a / 10 * 16 + a % 10 →
    (s.operandValue i.operand).map (·.toNat) = some (m / 10 * 16 + m % 10) →
    (i.mnemonic = .adc → ∃ t n, exec i s = .next t ∧ n = (a + m + bitNat s.flagC) % 100 ∧
      t.a.toNat = n / 10 * 16 + n % 10 ∧ t.flagC = decide (a + m + bitNat s.flagC ≥ 100) ∧
      NZFrom t.a s t ∧ ChangesOnly [.a] (cznvBits s.width) [] [] s t) ∧
    (i.mnemonic = .sbc → ∃ t n, exec i s = .next t ∧ n = (a + 100 - m - (1 - bitNat s.flagC)) % 100 ∧
      t.a.toNat = n / 10 * 16 + n % 10 ∧ t.flagC = decide (a ≥ m + (1 - bitNat s.flagC)) ∧
      NZFrom t.a s t ∧ ChangesOnly [.a] (cznvBits s.width) [] [] s t)

/-- 41_arithmetic_logic R147: decimal ADC and SBC at dw = 16 and 32 run with the open parameter's result, whatever it
is (log 6): A is `r AND DM`, C and V are C' and V', N and Z come from A. -/
def Obligations.WideDecimalFollowsTheOpenParameter : Prop :=
  ∀ (i : Instr) (s : State), s.wf → i.wf s.width = true → s.width ≠ .w8 → s.flagD = true →
    (i.mnemonic = .adc → ∃ m t r c v, s.operandValue i.operand = some m ∧ exec i s = .next t ∧
      Config.wideDecimal s.width .add s.a m s.flagC s.flagV = (r, c, v) ∧
      t.a.toNat = r.toNat % 2 ^ s.width.dw ∧ t.flagC = c ∧ t.flagV = v ∧
      NZFrom t.a s t ∧ ChangesOnly [.a] (cznvBits s.width) [] [] s t) ∧
    (i.mnemonic = .sbc → ∃ m t r c v, s.operandValue i.operand = some m ∧ exec i s = .next t ∧
      Config.wideDecimal s.width .sub s.a m s.flagC s.flagV = (r, c, v) ∧
      t.a.toNat = r.toNat % 2 ^ s.width.dw ∧ t.flagC = c ∧ t.flagV = v ∧
      NZFrom t.a s t ∧ ChangesOnly [.a] (cznvBits s.width) [] [] s t)

/-- ADC and SBC complete in every mode, at every width and for every operand, invalid BCD digits included; A, C, V, N
and Z are all they change, and N and Z come from the value written to A (41_arithmetic_logic R140, R144). That they
complete with D = 1 at dw = 16 and 32 is the model's choice (log 6): R147 lets a model without `wideDecimal` refuse. -/
def Obligations.AdcAndSbcCompleteInEveryMode : Prop :=
  encodings .adc = [(.imm, 0x69), (.zp, 0x65), (.zpx, 0x75), (.abs, 0x6D), (.absx, 0x7D), (.absy,
    0x79), (.indx, 0x61), (.indy, 0x71)] ∧
  encodings .sbc = [(.imm, 0xE9), (.zp, 0xE5), (.zpx, 0xF5), (.abs, 0xED), (.absx, 0xFD), (.absy,
    0xF9), (.indx, 0xE1), (.indy, 0xF1)] ∧
  ∀ (i : Instr) (s : State), s.wf → i.wf s.width = true → (i.mnemonic = .adc ∨ i.mnemonic = .sbc) →
    ∃ t, exec i s = .next t ∧ NZFrom t.a s t ∧ ChangesOnly [.a] (cznvBits s.width) [] [] s t

/-! ## Logic, compares and BIT -/

/-- 41_arithmetic_logic R148 to R150: AND, ORA and EOR with A, N and Z from the result; nothing else changes. -/
def Obligations.LogicCombinesWithA : Prop :=
  encodings .and = [(.imm, 0x29), (.zp, 0x25), (.zpx, 0x35), (.abs, 0x2D), (.absx, 0x3D), (.absy,
    0x39), (.indx, 0x21), (.indy, 0x31)] ∧
  encodings .ora = [(.imm, 0x09), (.zp, 0x05), (.zpx, 0x15), (.abs, 0x0D), (.absx, 0x1D), (.absy,
    0x19), (.indx, 0x01), (.indy, 0x11)] ∧
  encodings .eor = [(.imm, 0x49), (.zp, 0x45), (.zpx, 0x55), (.abs, 0x4D), (.absx, 0x5D), (.absy,
    0x59), (.indx, 0x41), (.indy, 0x51)] ∧
  ∀ (i : Instr) (s : State), s.wf → i.wf s.width = true →
    (i.mnemonic = .and → ∃ m t, s.operandValue i.operand = some m ∧ exec i s = .next t ∧
      t.a = s.a &&& m ∧ NZFrom t.a s t ∧ ChangesOnly [.a] (nzBits s.width) [] [] s t) ∧
    (i.mnemonic = .ora → ∃ m t, s.operandValue i.operand = some m ∧ exec i s = .next t ∧
      t.a = s.a ||| m ∧ NZFrom t.a s t ∧ ChangesOnly [.a] (nzBits s.width) [] [] s t) ∧
    (i.mnemonic = .eor → ∃ m t, s.operandValue i.operand = some m ∧ exec i s = .next t ∧
      t.a = s.a ^^^ m ∧ NZFrom t.a s t ∧ ChangesOnly [.a] (nzBits s.width) [] [] s t)

/-- 41_arithmetic_logic R151 to R154: CMP, CPX and CPY set C iff the register is at least the operand, Z iff they are
equal, and N to the sign bit of the difference modulo 2^dw; no register, no other flag and no cell changes. -/
def Obligations.ComparesSetOnlyFlags : Prop :=
  encodings .cmp = [(.imm, 0xC9), (.zp, 0xC5), (.zpx, 0xD5), (.abs, 0xCD), (.absx, 0xDD), (.absy,
    0xD9), (.indx, 0xC1), (.indy, 0xD1)] ∧
  encodings .cpx = [(.imm, 0xE0), (.zp, 0xE4), (.abs, 0xEC)] ∧
  encodings .cpy = [(.imm, 0xC0), (.zp, 0xC4), (.abs, 0xCC)] ∧
  ∀ (i : Instr) (s : State) (r : Word), s.wf → i.wf s.width = true →
    (i.mnemonic = .cmp ∧ r = s.a ∨ i.mnemonic = .cpx ∧ r = s.x ∨ i.mnemonic = .cpy ∧ r = s.y) →
    ∃ m t, s.operandValue i.operand = some m ∧ exec i s = .next t ∧
      t.flagC = decide (r.toNat ≥ m.toNat) ∧ t.flagZ = decide (r = m) ∧
      t.flagN = decide ((2 ^ (s.width.dw - 1) : Nat) ≤ ((r.toNat : Int) - m.toNat) % (2 ^ s.width.dw : Nat)) ∧
      ChangesOnly [] [0, 1, s.width.dw - 1] [] [] s t

/-- 41_arithmetic_logic R155: BIT copies bits dw-1 and dw-2 of the cell to N and V and sets Z iff A AND the cell is 0;
A and everything else is unchanged. -/
def Obligations.BitTestsWithoutChangingA : Prop :=
  encodings .bit = [(.zp, 0x24), (.abs, 0x2C)] ∧
  ∀ (i : Instr) (s : State), s.wf → i.wf s.width = true → i.mnemonic = .bit →
    ∃ o t, i.operand = .mem o ∧ exec i s = .next t ∧
      t.flagN = (s.read (s.ea o)).getLsbD (s.width.dw - 1) ∧
      t.flagV = (s.read (s.ea o)).getLsbD (s.width.dw - 2) ∧
      t.flagZ = decide (s.a &&& s.read (s.ea o) = 0) ∧
      ChangesOnly [] [1, s.width.dw - 2, s.width.dw - 1] [] [] s t

/-! ## Increments, decrements, shifts -/

/-- 42_inc_dec_shift R160, R161, R170: INC and DEC on memory write the cell at the effective address once, modulo 2^dw,
emit one event, and set N and Z from the new value; C, V and every register and other cell are unchanged. -/
def Obligations.IncAndDecRewriteOneCell : Prop :=
  encodings .inc = [(.zp, 0xE6), (.zpx, 0xF6), (.abs, 0xEE), (.absx, 0xFE)] ∧
  encodings .dec = [(.zp, 0xC6), (.zpx, 0xD6), (.abs, 0xCE), (.absx, 0xDE)] ∧
  ∀ (i : Instr) (s : State) (d : Int), s.wf → i.wf s.width = true →
    (i.mnemonic = .inc ∧ d = 1 ∨ i.mnemonic = .dec ∧ d = -1) →
    ∃ o t r, i.operand = .mem o ∧ exec i s = .next t ∧
      (r.toNat : Int) = ((s.read (s.ea o)).toNat + d) % (2 ^ s.width.dw : Nat) ∧ t.read (s.ea o) = r ∧
      NZFrom r s t ∧
      ChangesOnly [] (nzBits s.width) [s.ea o] [.onMemoryWrite (s.ea o) r] s t

/-- 42_inc_dec_shift R162 to R165: INX, INY, DEX and DEY count modulo 2^dw and set N and Z; nothing else changes. -/
def Obligations.IndexCountsWrap : Prop :=
  encodings .inx = [(.single, 0xE8)] ∧ encodings .iny = [(.single, 0xC8)] ∧ encodings .dex = [(.single, 0xCA)] ∧
  encodings .dey = [(.single, 0x88)] ∧
  ∀ s : State, s.wf →
    (∃ t, exec .inx s = .next t ∧ t.x.toNat = (s.x.toNat + 1) % 2 ^ s.width.dw ∧ NZFrom t.x s t ∧
      ChangesOnly [.x] (nzBits s.width) [] [] s t) ∧
    (∃ t, exec .iny s = .next t ∧ t.y.toNat = (s.y.toNat + 1) % 2 ^ s.width.dw ∧ NZFrom t.y s t ∧
      ChangesOnly [.y] (nzBits s.width) [] [] s t) ∧
    (∃ t, exec .dex s = .next t ∧ (t.x.toNat : Int) = ((s.x.toNat : Int) - 1) % (2 ^ s.width.dw : Nat) ∧
      NZFrom t.x s t ∧ ChangesOnly [.x] (nzBits s.width) [] [] s t) ∧
    (∃ t, exec .dey s = .next t ∧ (t.y.toNat : Int) = ((s.y.toNat : Int) - 1) % (2 ^ s.width.dw : Nat) ∧
      NZFrom t.y s t ∧ ChangesOnly [.y] (nzBits s.width) [] [] s t)

/-- 42_inc_dec_shift R166 to R169: ASL, LSR, ROL and ROR by the rule of their mnemonic. The accumulator form writes A,
the memory forms read and write the cell at the effective address once, with one event; C is the bit shifted out, N and
Z come from the result; every other register, flag and cell is unchanged. -/
def Obligations.ShiftsAndRotates : Prop :=
  encodings .asl = [(.single, 0x0A), (.zp, 0x06), (.zpx, 0x16), (.abs, 0x0E), (.absx, 0x1E)] ∧
  encodings .lsr = [(.single, 0x4A), (.zp, 0x46), (.zpx, 0x56), (.abs, 0x4E), (.absx, 0x5E)] ∧
  encodings .rol = [(.single, 0x2A), (.zp, 0x26), (.zpx, 0x36), (.abs, 0x2E), (.absx, 0x3E)] ∧
  encodings .ror = [(.single, 0x6A), (.zp, 0x66), (.zpx, 0x76), (.abs, 0x6E), (.absx, 0x7E)] ∧
  (∀ (i : Instr) (s : State), s.wf → i.operand = .single →
    (i.mnemonic = .asl ∨ i.mnemonic = .lsr ∨ i.mnemonic = .rol ∨ i.mnemonic = .ror) →
    ∃ t, exec i s = .next t ∧
      (t.a.toNat, t.flagC) = shiftRule s.width i.mnemonic s.a.toNat s.flagC ∧
      NZFrom t.a s t ∧ ChangesOnly [.a] [0, 1, s.width.dw - 1] [] [] s t) ∧
  (∀ (i : Instr) (s : State) (o : MemOperand), s.wf → i.wf s.width = true → i.operand = .mem o →
    (i.mnemonic = .asl ∨ i.mnemonic = .lsr ∨ i.mnemonic = .rol ∨ i.mnemonic = .ror) →
    ∃ t, exec i s = .next t ∧
      ((t.read (s.ea o)).toNat, t.flagC) = shiftRule s.width i.mnemonic (s.read (s.ea o)).toNat s.flagC ∧
      NZFrom (t.read (s.ea o)) s t ∧
      ChangesOnly [] [0, 1, s.width.dw - 1] [s.ea o] [.onMemoryWrite (s.ea o) (t.read (s.ea o))] s t)

/-! ## Control transfer. `exec` runs with PC past the instruction's cells (10_state R25). -/

/-- 43_control R180: JMP absolute goes to the operand word, JMP indirect to the word the pointer names, whose second
cell is at `(p + 1) AND AM`; nothing but PC changes. -/
def Obligations.JumpsSetPc : Prop :=
  encodings .jmp = [(.abs, 0x4C), (.ind, 0x6C)] ∧
  ∀ (s : State) (lo hi : Word), s.wf →
    (∃ t, exec (.jmpAbs lo hi) s = .next t ∧ t.pc.toNat = s.width.word lo hi ∧ ChangesOnly [.pc] [] [] [] s t) ∧
    (∃ t p, exec (.jmpInd lo hi) s = .next t ∧ p = s.width.word lo hi ∧
      t.pc.toNat = s.width.word (s.read p) (s.read ((p + 1) % 2 ^ s.width.aw)) ∧ ChangesOnly [.pc] [] [] [] s t)

/-- 43_control R181: JSR pushes `(PC - 1) AND AM`, high limb first, so the high limb is in the cell SP named and the low
limb in the cell below it in the bank, with a warning for each push at SP = 0, and jumps to its operand word. -/
def Obligations.JsrPushesTheReturnAddress : Prop :=
  encodings .jsr = [(.abs, 0x20)] ∧
  ∀ (s : State) (lo hi : Word), s.wf →
    ∃ t r a1 a2 sp1, exec (.jsrAbs lo hi) s = .next t ∧
      r = (s.pc.toNat + 2 ^ s.width.aw - 1) % 2 ^ s.width.aw ∧
      sp1 = (s.sp.toNat + 2 ^ s.width.dw - 1) % 2 ^ s.width.dw ∧
      a1 = s.width.stackBase + s.sp.toNat ∧ a2 = s.width.stackBase + sp1 ∧
      (t.read a1).toNat = r / 2 ^ s.width.dw % 2 ^ s.width.dw ∧ (t.read a2).toNat = r % 2 ^ s.width.dw ∧
      t.sp.toNat = (s.sp.toNat + 2 ^ s.width.dw - 2) % 2 ^ s.width.dw ∧
      t.pc.toNat = s.width.word lo hi ∧
      ChangesOnly [.sp, .pc] [] [a1, a2]
        ((if sp1 = 0 then [.warning .push] else []) ++ [.onMemoryWrite a2 (t.read a2)] ++
          (if s.sp = 0 then [.warning .push] else []) ++ [.onMemoryWrite a1 (t.read a1)]) s t

/-- 43_control R182: RTS pops the low limb, then the high limb, and continues at their word plus 1, modulo 2^aw; each pop
at SP = DM warns. No flag and no cell changes. -/
def Obligations.RtsReturnsPastThePoppedWord : Prop :=
  encodings .rts = [(.single, 0x60)] ∧
  ∀ s : State, s.wf →
    ∃ t sp1 sp2, exec .rts s = .next t ∧
      sp1 = (s.sp.toNat + 1) % 2 ^ s.width.dw ∧ sp2 = (s.sp.toNat + 2) % 2 ^ s.width.dw ∧
      t.pc.toNat =
        (s.width.word (s.read (s.width.stackBase + sp1)) (s.read (s.width.stackBase + sp2)) + 1) % 2 ^ s.width.aw ∧
      t.sp.toNat = sp2 ∧
      ChangesOnly [.sp, .pc] [] []
        ((if sp1 = s.width.dataMask then [.warning .pop] else []) ++
          (if s.sp.toNat = s.width.dataMask then [.warning .pop] else [])) s t

/-- 43_control R183: RTI pops P with bits 4 and 5 forced to 1, then the low and the high limb of PC, to which nothing is
added. No cell and no register but P, SP and PC changes. -/
def Obligations.RtiRestoresPAndPc : Prop :=
  encodings .rti = [(.single, 0x40)] ∧
  ∀ s : State, s.wf →
    ∃ t sp1 sp2 sp3, exec .rti s = .next t ∧
      sp1 = (s.sp.toNat + 1) % 2 ^ s.width.dw ∧ sp2 = (s.sp.toNat + 2) % 2 ^ s.width.dw ∧
      sp3 = (s.sp.toNat + 3) % 2 ^ s.width.dw ∧
      t.p = s.read (s.width.stackBase + sp1) ||| 0x30 ∧
      t.pc.toNat = s.width.word (s.read (s.width.stackBase + sp2)) (s.read (s.width.stackBase + sp3)) ∧
      t.sp.toNat = sp3 ∧
      ChangesOnly [.sp, .pc] (List.range 32) []
        ((if sp2 = s.width.dataMask then [.warning .pop] else []) ++
          (if sp1 = s.width.dataMask then [.warning .pop] else []) ++
          (if s.sp.toNat = s.width.dataMask then [.warning .pop] else [])) s t

/-- RTS undoes JSR: from the state JSR leaves, RTS continues after the JSR with SP as it was, in every profile
(derived from 43_control R181, R182; between the two instructions no cell is refreshed here). -/
def Obligations.RtsUndoesJsr : Prop :=
  ∀ (s t : State) (lo hi : Word), s.wf → exec (.jsrAbs lo hi) s = .next t →
    ∃ u, exec .rts t = .next u ∧ u.pc = s.pc ∧ u.sp = s.sp ∧ u.a = s.a ∧ u.x = s.x ∧ u.y = s.y ∧ u.p = s.p

/-- 43_control R184 to R192: a taken branch adds the signed offset to the address of the next instruction, modulo 2^aw;
one not taken leaves PC there; nothing else changes. -/
def Obligations.BranchesAddTheSignedOffset : Prop :=
  encodings .bcc = [(.rel, 0x90)] ∧ encodings .bcs = [(.rel, 0xB0)] ∧ encodings .beq = [(.rel, 0xF0)] ∧
  encodings .bne = [(.rel, 0xD0)] ∧ encodings .bmi = [(.rel, 0x30)] ∧ encodings .bpl = [(.rel, 0x10)] ∧
  encodings .bvc = [(.rel, 0x50)] ∧ encodings .bvs = [(.rel, 0x70)] ∧
  ∀ (i : Instr) (s : State) (d : Word) (taken : Bool), s.wf → i.wf s.width = true → i.operand = .rel d →
    branchTaken i.mnemonic s = some taken →
    ∃ t, exec i s = .next t ∧
      (t.pc.toNat : Int) =
        (if taken then ((s.pc.toNat : Int) + s.width.signed d) % (2 ^ s.width.aw : Nat) else s.pc.toNat) ∧
      ChangesOnly [.pc] [] [] [] s t

/-- 43_control R193 and 44_stack_flags R209, R210: BRK, CLI and SEI halt with their reason at the address of their opcode
cell, `(PC - 1) AND AM`; PC stays past the cell, nothing is pushed, no flag and nothing else of the session changes, and
the one event is onHalt. -/
def Obligations.BrkCliAndSeiHalt : Prop :=
  encodings .brk = [(.single, 0x00)] ∧ encodings .cli = [(.single, 0x58)] ∧ encodings .sei = [(.single, 0x78)] ∧
  ∀ (i : Instr) (s : State) (r : HaltReason), s.wf →
    (i = .brk ∧ r = .brk ∨ i = .cli ∧ r = .unimplementedFeature ∨ i = .sei ∧ r = .unimplementedFeature) →
    ∃ t pc, exec i s = .next t ∧ pc.toNat = (s.pc.toNat + 2 ^ s.width.aw - 1) % 2 ^ s.width.aw ∧
      t.status = .halted r pc ∧ t.trace = .onHalt pc r :: s.trace ∧
      (∀ g, t.reg g = s.reg g) ∧ (∀ a, t.read a = s.read a) ∧
      t.width = s.width ∧ t.origin = s.origin ∧ t.labels = s.labels ∧ t.cursor = s.cursor ∧
      t.codeLength = s.codeLength ∧ t.running = s.running ∧ t.draws = s.draws ∧ t.drawCount = s.drawCount

/-- 43_control R194: NOP changes nothing. -/
def Obligations.NopChangesNothing : Prop :=
  encodings .nop = [(.single, 0xEA)] ∧
  ∀ s : State, exec .nop s = .next s

/-! ## Stack and flags -/

/-- 44_stack_flags R200, R201 and 10_state R33: PHA pushes A and PHP pushes P with bits 4 and 5 set: the cell SP named is
written, then SP is decremented modulo 2^dw, with a warning at SP = 0. -/
def Obligations.PushesWriteThenDecrement : Prop :=
  encodings .pha = [(.single, 0x48)] ∧ encodings .php = [(.single, 0x08)] ∧
  ∀ (i : Instr) (s : State) (v : Word), s.wf →
    (i = .pha ∧ v = s.a ∨ i = .php ∧ v = s.p ||| 0x30) →
    ∃ t a, exec i s = .next t ∧ a = s.width.stackBase + s.sp.toNat ∧ t.read a = v ∧
      t.sp.toNat = (s.sp.toNat + 2 ^ s.width.dw - 1) % 2 ^ s.width.dw ∧
      ChangesOnly [.sp] [] [a] ((if s.sp = 0 then [.warning .push] else []) ++ [.onMemoryWrite a v]) s t

/-- 44_stack_flags R202, R203 and 10_state R34: PLA and PLP increment SP modulo 2^dw, with a warning at SP = DM, and then
read the cell it names: PLA into A with N and Z, PLP into P with bits 4 and 5 forced to 1. -/
def Obligations.PullsIncrementThenRead : Prop :=
  encodings .pla = [(.single, 0x68)] ∧ encodings .plp = [(.single, 0x28)] ∧
  ∀ s : State, s.wf →
    (∃ t sp1 v, exec .pla s = .next t ∧ sp1 = (s.sp.toNat + 1) % 2 ^ s.width.dw ∧
      v = s.read (s.width.stackBase + sp1) ∧ t.a = v ∧ t.sp.toNat = sp1 ∧ NZFrom v s t ∧
      ChangesOnly [.a, .sp] (nzBits s.width) []
        (if s.sp.toNat = s.width.dataMask then [.warning .pop] else []) s t) ∧
    (∃ t sp1 v, exec .plp s = .next t ∧ sp1 = (s.sp.toNat + 1) % 2 ^ s.width.dw ∧
      v = s.read (s.width.stackBase + sp1) ∧ t.p = v ||| 0x30 ∧ t.sp.toNat = sp1 ∧
      ChangesOnly [.sp] (List.range 32) []
        (if s.sp.toNat = s.width.dataMask then [.warning .pop] else []) s t)

/-- PLA undoes PHA, and PLP undoes PHP up to bits 4 and 5, in every profile, at every SP, where `exec` is applied twice
with no refresh of cell 0xFE between (derived from 44_stack_flags R200 to R203). Two steps at dw = 32 that push to and
pull from cell 0xFE give the draw instead (70_reset_and_hazards R317, R318). -/
def Obligations.PullUndoesPush : Prop :=
  ∀ s t u : State, s.wf →
    (exec .pha s = .next t → exec .pla t = .next u → u.a = s.a ∧ u.sp = s.sp ∧ u.pc = s.pc) ∧
    (exec .php s = .next t → exec .plp t = .next u → u.p = s.p ||| 0x30 ∧ u.sp = s.sp ∧ u.a = s.a)

/-- 44_stack_flags R204 to R208: CLC, SEC, CLD, SED and CLV write their one flag and nothing else. -/
def Obligations.FlagInstructionsWriteOneFlag : Prop :=
  encodings .clc = [(.single, 0x18)] ∧ encodings .sec = [(.single, 0x38)] ∧ encodings .cld = [(.single, 0xD8)] ∧
  encodings .sed = [(.single, 0xF8)] ∧ encodings .clv = [(.single, 0xB8)] ∧
  ∀ s : State, s.wf →
    (∃ t, exec .clc s = .next t ∧ t.flagC = false ∧ ChangesOnly [] [0] [] [] s t) ∧
    (∃ t, exec .sec s = .next t ∧ t.flagC = true ∧ ChangesOnly [] [0] [] [] s t) ∧
    (∃ t, exec .cld s = .next t ∧ t.flagD = false ∧ ChangesOnly [] [3] [] [] s t) ∧
    (∃ t, exec .sed s = .next t ∧ t.flagD = true ∧ ChangesOnly [] [3] [] [] s t) ∧
    (∃ t, exec .clv s = .next t ∧ t.flagV = false ∧ ChangesOnly [] [s.width.dw - 2] [] [] s t)

/-! ## Whole-machine rules -/

/-- The table of 10_state R22, and its like for SP: no instruction but the listed ones changes A, X, Y or SP. -/
def Obligations.RegistersChangeOnlyByTheirInstructions : Prop :=
  ∀ (i : Instr) (s t : State), s.wf → exec i s = .next t →
    (t.a ≠ s.a → i.mnemonic ∈ [.lda, .txa, .tya, .pla, .adc, .sbc, .and, .ora, .eor] ∨
      i ∈ [.aslAcc, .lsrAcc, .rolAcc, .rorAcc]) ∧
    (t.x ≠ s.x → i.mnemonic ∈ [.ldx, .tax, .tsx, .inx, .dex]) ∧
    (t.y ≠ s.y → i.mnemonic ∈ [.ldy, .tay, .iny, .dey]) ∧
    (t.sp ≠ s.sp → i.mnemonic ∈ [.txs, .pha, .php, .pla, .plp, .jsr, .rts, .rti]) ∧
    (t.pc ≠ s.pc → i.mnemonic ∈ [.jmp, .jsr, .rts, .rti, .bcc, .bcs, .beq, .bne, .bmi, .bpl, .bvc, .bvs])

/-- The 'written by' column of 10_state R27: V, D, I and C change only by the instructions it lists. -/
def Obligations.FlagsChangeOnlyByTheirInstructions : Prop :=
  ∀ (i : Instr) (s t : State), s.wf → exec i s = .next t →
    (t.flagV ≠ s.flagV → i.mnemonic ∈ [.adc, .sbc, .bit, .clv, .plp, .rti]) ∧
    (t.flagD ≠ s.flagD → i.mnemonic ∈ [.cld, .sed, .plp, .rti]) ∧
    (t.flagI ≠ s.flagI → i.mnemonic ∈ [.plp, .rti]) ∧
    (t.flagC ≠ s.flagC → i.mnemonic ∈
      [.adc, .sbc, .cmp, .cpx, .cpy, .asl, .lsr, .rol, .ror, .clc, .sec, .plp, .rti])

/-- Cells change only by stores, pushes and read-modify-writes, and the status only by BRK, CLI and SEI (20_memory R52;
60_exceptions R286); width, ORIGIN, label table and `codeLength` by no instruction. -/
def Obligations.MemoryAndStatusChangeOnlyByTheirInstructions : Prop :=
  ∀ (i : Instr) (s t : State), s.wf → i.wf s.width = true → exec i s = .next t →
    ((∃ a, t.read a ≠ s.read a) → i.mnemonic ∈ [.sta, .stx, .sty, .inc, .dec, .asl, .lsr, .rol, .ror, .pha, .php, .jsr]) ∧
    (t.status ≠ s.status → i.mnemonic ∈ [.brk, .cli, .sei]) ∧
    t.width = s.width ∧ t.origin = s.origin ∧ t.labels = s.labels ∧ t.codeLength = s.codeLength

/-! ## The host interface -/

/-- 60_exceptions R293, R294: single-step and run mode share the step. `run` starts a run and changes nothing else; one
invocation of the driver is a batch of `n` steps of the machine, which leaves a Halted core as it is, so a halt stops it
early; the run ends if the core is no longer Ready after the batch. `stop` ends the run and changes nothing else, the
status among it, so a Ready core stays Ready. A single step is one step and reports the registers after it. That `stop`
with no run in progress is done and changes nothing is the model's choice (log 9). -/
def Obligations.RunModeIsIteratedStep : Prop :=
  (∀ (n : Nat) (s t : State), Host.Core.run Sys2Proof.core n s = .next t → State.runBatch n s = t) ∧
  (∀ (n : Nat) (s t : State), step s = .next t → State.runBatch (n + 1) s = State.runBatch n t) ∧
  (∀ (n : Nat) (s : State), s.status ≠ .ready → State.runBatch n s = s) ∧
  (∀ (n m : Nat) (s : State), State.runBatch (n + m) s = State.runBatch m (State.runBatch n s)) ∧
  (∀ s : State, s.status = .ready → s.running = false →
    hostStep .run (some s) = (some { s with running := true }, .done)) ∧
  (∀ (n : Nat) (s : State), s.running = true →
    ∃ t, hostStep (.driver n) (some s) = (some t, .done) ∧ t.running = decide (t.status = .ready) ∧
      { t with running := true } = State.runBatch n s) ∧
  (∀ s : State, hostStep .stop (some s) = (some { s with running := false }, .done)) ∧
  (∀ s t : State, step s = .next t → s.running = false →
    hostStep .step (some s) = (some t, .report ⟨t.a, t.x, t.y, t.sp, t.pc, t.p⟩))

/-- 60_exceptions R295, 70_reset_and_hazards R319: while a run is in progress every host operation marked as not allowed
is refused and changes nothing; key input is allowed. -/
def Obligations.RunningRefusesHostWrites : Prop :=
  (∀ (s : State) (op : HostOp), s.running = true →
    ((∃ w, op = .configure w) ∨ (∃ t, op = .assemble t) ∨ op = .reset ∨ (∃ g, op = .goto g) ∨ op = .step ∨ op = .run ∨
      (∃ r v, op = .writeReg r v) ∨ (∃ a v, op = .writeMem a v)) →
    hostStep op (some s) = (some s, .refused .running)) ∧
  (∀ (s : State) (k : Byte), s.running = true → hostStep (.key k) (some s) = (some (s.store 0xFF (k.setWidth 32)), .done))

/-- 60_exceptions R298, 20_memory R62: key input stores the keycode in cell 0xFF and emits the write's event, in any
status, during a run as well; no register and no other cell changes. -/
def Obligations.KeyInputStoresTheKeycode : Prop :=
  ∀ (s : State) (k : Byte), s.wf →
    ∃ t, hostStep (.key k) (some s) = (some t, .done) ∧ t.read 0xFF = k.setWidth 32 ∧
      ChangesOnly [] [] [0xFF] [.onMemoryWrite 0xFF (k.setWidth 32)] s t

/-- 60_exceptions R297: `goto` a number in [0, AM] or a label of the table sets PC and status Ready; a number above AM
or a name not in the table is AddressOutOfRangeError and changes nothing. -/
def Obligations.GotoSetsPcOrFails : Prop :=
  ∀ s : State, s.running = false →
    (∀ n, n ≤ s.width.addrMask → ∃ t, hostStep (.goto (.number n)) (some s) = (some t, .done) ∧
      t.pc.toNat = n ∧ t.status = .ready ∧ (∀ r, r ≠ .pc → t.reg r = s.reg r) ∧ (∀ a, t.read a = s.read a) ∧
      t.trace = s.trace ∧ t.labels = s.labels) ∧
    (∀ n, s.width.addrMask < n →
      hostStep (.goto (.number n)) (some s) = (some s, .error (.addressOutOfRange (.number n)))) ∧
    (∀ (name : Text) (n : Nat), s.labelsUnique → (name, n) ∈ s.labels → n ≤ s.width.addrMask →
      ∃ t, hostStep (.goto (.label name)) (some s) = (some t, .done) ∧ t.pc.toNat = n ∧ t.status = .ready) ∧
    (∀ name : Text, name ∉ s.labels.map (·.1) →
      hostStep (.goto (.label name)) (some s) = (some s, .error (.addressOutOfRange (.label name))))

/-! ## The assembler and the disassembler -/

/-- 45_assembler R246: a failed assembly empties the label table and leaves memory, registers, status, `codeLength` and
the rest of the session unchanged (the cursor among it: log 8); its one event, if it has one, is the error's (R244). -/
def Obligations.FailedAssemblyCommitsNothing : Prop :=
  ∀ (s t : State) (text : Text) (e : AsmError), s.running = false →
    hostStep (.assemble text) (some s) = (some t, .error (.assembly e)) →
    t.labels = [] ∧ (∀ r, t.reg r = s.reg r) ∧ t.mem = s.mem ∧ t.randCell = s.randCell ∧ t.status = s.status ∧
      t.codeLength = s.codeLength ∧ t.width = s.width ∧ t.origin = s.origin ∧ t.cursor = s.cursor ∧
      t.running = s.running ∧ t.draws = s.draws ∧ t.drawCount = s.drawCount ∧
      t.trace = (match e with
        | .labelConflict n name => [.onLabelConflict n name]
        | .assembly n line => [.onAssembleError n line]
        | .addressOutOfRange n line => [.onAssembleError n line]
        | .emptyProgram => []) ++ s.trace

/-- 45_assembler R241, R242: a successful assembly leaves the reset registers and status Ready; its cells, the zero
sentinel last, are written in order through the store, one event each, over a zeroed memory; the label table is the
program's and `codeLength` counts the cells without the sentinel. -/
def Obligations.SuccessfulAssemblyCommitsTheProgram : Prop :=
  ∀ (s : State) (text : Text) (prog : Program), s.wf → s.running = false →
    assembleText s.width s.origin.toNat text = .ok prog →
    ∃ t, hostStep (.assemble text) (some s) = (some t, .done) ∧
      t.a = 0 ∧ t.x = 0 ∧ t.y = 0 ∧ t.sp = 0xFF ∧ t.p = 0x30 ∧ t.pc = s.origin ∧ t.status = .ready ∧
      t.labels = prog.labels ∧ t.codeLength = prog.codeLength ∧ prog.cells.length = prog.codeLength + 1 ∧
      prog.codeLength ≠ 0 ∧ prog.cells.getLast? = some (prog.cursor, 0) ∧
      (∀ c ∈ prog.cells, c.1 ≤ s.width.addrMask) ∧
      (∀ a, t.read a =
        match prog.cells.reverse.find? (fun c => c.1 == a) with
        | some c => s.width.cell c.2.toNat
        | none => 0) ∧
      t.trace = (prog.cells.map fun c => Event.onMemoryWrite c.1 (s.width.cell c.2.toNat)).reverse ++ s.trace

/-- The examples of 45_assembler R226 and R248: `LOOP: INX` / `BNE LOOP` gives E8 D0 FD and the sentinel, and
`A: NOP` / `A: NOP` fails at line 2. -/
def Obligations.AssemblerExamples : Prop :=
  assembleText .w8 0x600 "LOOP: INX\nBNE LOOP".toList =
    .ok { labels := [("LOOP".toList, 0x600)],
          cells := [(0x600, 0xE8), (0x601, 0xD0), (0x602, 0xFD), (0x603, 0x00)], codeLength := 3, cursor := 0x603 } ∧
  assembleText .w8 0x600 "A: NOP\nA: NOP".toList = .error (.labelConflict 2 "A".toList) ∧
  assembleText .w8 0x600 "; comment only".toList = .error .emptyProgram ∧
  assembleText .w8 0x600 "BNE $0600".toList = .error (.assembly 1 "BNE $0600".toList)

/-- The examples of 46_disassembler R265 and R269: after assembling `LOOP: INX` / `BNE LOOP` from the reset state, the
disassembly and a dump of 16 cells from ORIGIN; both are read-only. -/
def Obligations.DisassemblyAndDumpExamples : Prop :=
  ∃ t, hostStep (.assemble "LOOP: INX\nBNE LOOP".toList) (some State.reset) = (some t, .done) ∧
    hostStep .disassemble (some t) =
      (some t, .lines ["$0600  E8         INX".toList, "$0601  D0 FD      BNE $0600".toList]) ∧
    hostStep (.dump 0x600 16) (some t) =
      (some t, .lines ["$0600: E8 D0 FD 00 00 00 00 00 00 00 00 00 00 00 00 00".toList])

/-- Length agreement, which 45_assembler derives (R247): for every line that pass 2 encodes, with any label table and at
any address, pass 1 measured the same length. -/
def Obligations.PassesAgreeOnLengths : Prop :=
  ∀ (w : Width) (labels : List (Text × Nat)) (a : Nat) (line : Text) (cells : List Word),
    encodeCode w (lookupLabel labels) a line = some cells → measureLength w line = cells.length

/-- 45_assembler R234 with 43_control R184: the offset the assembler encodes for a branch at `a` to a target within reach
takes the branch to that target when it runs. -/
def Obligations.AssembledBranchReachesItsTarget : Prop :=
  ∀ (s t : State) (a target : Nat) (i : Instr) (d : Word), s.wf → a ≤ s.width.addrMask → target ≤ s.width.addrMask →
    s.pc.toNat = (a + 2) % 2 ^ s.width.aw →
    -(s.width.signBit : Int) ≤ (target : Int) - (a + 2) → (target : Int) - (a + 2) ≤ (s.width.signBit : Int) - 1 →
    (OperandText.target target).cells s.width a = [d] →
    i.operand = .rel d → branchTaken i.mnemonic s = some true → exec i s = .next t →
    t.pc.toNat = target

/-- 46_disassembler R263: the target the disassembler shows for a branch at `a` is the address the taken branch goes to. -/
def Obligations.DisassembledTargetIsTheRuntimeTarget : Prop :=
  ∀ (s t : State) (a : Nat) (i : Instr) (d : Word), s.wf → i.wf s.width = true →
    s.pc.toNat = (a + 2) % 2 ^ s.width.aw → i.operand = .rel d → branchTaken i.mnemonic s = some true →
    exec i s = .next t →
    operandText s.width a i.operand = some (addressText s.width t.pc.toNat)
end

