-- ==== Sys2Proof/Laws/Memory.lean ====
section
/-! SUPPORT. The laws of the memory list: read after write, and the canonical form is kept and makes equal memories
equal lists. -/

namespace Sys2Proof.Machine

theorem Memory.read_of_lt {m : Memory} {a : Nat} (h : ∀ c ∈ m, a < c.1) : m.read a = Memory.unlisted := by
  induction m with
  | nil => rfl
  | cons c m ih =>
    obtain ⟨b, u⟩ := c
    have hb : a < b := h (b, u) (by simp)
    simp only [Memory.read, if_neg (Nat.ne_of_lt hb)]
    exact ih fun d hd => h d (by simp [hd])

/-- Every listed cell after a write is the written one or was listed before. -/
theorem Memory.mem_write {m : Memory} {a : Nat} {v : Word} {c : Nat × Word} (h : c ∈ m.write a v) :
    (c = (a, v) ∧ v ≠ Memory.unlisted) ∨ c ∈ m := by
  induction m with
  | nil =>
    unfold Memory.write at h
    split at h <;> simp_all
  | cons d m ih =>
    obtain ⟨b, u⟩ := d
    unfold Memory.write at h
    split at h
    · split at h
      · exact .inr h
      · rcases List.mem_cons.1 h with h | h
        · exact .inl ⟨h, by assumption⟩
        · exact .inr h
    · split at h
      · split at h
        · exact .inr (List.mem_cons_of_mem _ h)
        · rcases List.mem_cons.1 h with h | h
          · exact .inl ⟨h, by assumption⟩
          · exact .inr (List.mem_cons_of_mem _ h)
      · rcases List.mem_cons.1 h with h | h
        · exact .inr (by simp [h])
        · rcases ih h with h | h
          · exact .inl h
          · exact .inr (List.mem_cons_of_mem _ h)

/-- A write keeps the addresses strictly rising. -/
theorem Memory.write_rising {m : Memory} (h : m.Pairwise fun c d => c.1 < d.1) (a : Nat) (v : Word) :
    (m.write a v).Pairwise fun c d => c.1 < d.1 := by
  induction m with
  | nil =>
    unfold Memory.write
    split <;> simp
  | cons d m ih =>
    obtain ⟨b, u⟩ := d
    obtain ⟨hd, hm⟩ := List.pairwise_cons.1 h
    unfold Memory.write
    split
    · split
      · exact h
      · rename_i hab _
        refine List.pairwise_cons.2 ⟨fun c hc => ?_, h⟩
        rcases List.mem_cons.1 hc with rfl | hc
        · exact hab
        · exact Nat.lt_trans hab (hd c hc)
    · split
      · rename_i hab
        subst hab
        split
        · exact hm
        · exact List.pairwise_cons.2 ⟨hd, hm⟩
      · refine List.pairwise_cons.2 ⟨fun c hc => ?_, ih hm⟩
        rcases Memory.mem_write hc with ⟨rfl, _⟩ | hc
        · simp only; omega
        · exact hd c hc

/-- A write keeps the canonical form (log 3). -/
theorem Memory.write_wf {w : Width} {m : Memory} (h : m.wf w) {a : Nat} {v : Word} (ha : a < 2 ^ w.aw)
    (hr : a ≠ randAddr) (hv : w.fits v = true) : (m.write a v).wf w := by
  refine ⟨Memory.write_rising h.1 a v, fun c hc => ?_⟩
  rcases Memory.mem_write hc with ⟨rfl, hne⟩ | hc
  · exact ⟨ha, hr, hne, hv⟩
  · exact h.2 c hc

/-- The empty memory is in canonical form. -/
theorem Memory.nil_wf (w : Width) : Memory.wf w [] := by simp [Memory.wf]

/-- Read after write (20_memory R51, R52). -/
theorem Memory.read_write {m : Memory} (h : m.Pairwise fun c d => c.1 < d.1) (a b : Nat) (v : Word) :
    (m.write a v).read b = if b = a then v else m.read b := by
  induction m with
  | nil =>
    unfold Memory.write
    by_cases hv : v = Memory.unlisted <;> by_cases hb : b = a <;> simp_all [Memory.read]
  | cons d m ih =>
    obtain ⟨c, u⟩ := d
    obtain ⟨hd, hm⟩ := List.pairwise_cons.1 h
    unfold Memory.write
    split
    · rename_i hac
      by_cases hv : v = Memory.unlisted
      · rw [if_pos hv]
        by_cases hb : b = a
        · subst hb
          rw [if_pos rfl, hv, Memory.read_of_lt]
          intro e he
          rcases List.mem_cons.1 he with rfl | he
          · exact hac
          · exact Nat.lt_trans hac (hd e he)
        · rw [if_neg hb]
      · rw [if_neg hv, Memory.read]
    · split
      · rename_i hac
        subst hac
        by_cases hv : v = Memory.unlisted
        · rw [if_pos hv]
          by_cases hb : b = a
          · subst hb
            rw [if_pos rfl, hv, Memory.read_of_lt fun e he => hd e he]
          · rw [if_neg hb, Memory.read, if_neg hb]
        · by_cases hb : b = a <;> simp [hv, hb, Memory.read]
      · rw [Memory.read, Memory.read, ih hm]
        by_cases hb : b = c
        · have hba : b ≠ a := by omega
          rw [if_pos hb, if_neg hba, if_pos hb]
        · rw [if_neg hb, if_neg hb]

/-- A listed cell is what its address reads as. -/
theorem Memory.read_of_mem {m : Memory} (h : m.Pairwise fun c d => c.1 < d.1) {c : Nat × Word} (hc : c ∈ m) :
    m.read c.1 = c.2 := by
  induction m with
  | nil => simp at hc
  | cons d m ih =>
    obtain ⟨b, u⟩ := d
    obtain ⟨hd, hm⟩ := List.pairwise_cons.1 h
    rcases List.mem_cons.1 hc with rfl | hc
    · simp [Memory.read]
    · have := hd c hc
      rw [Memory.read, if_neg (by simp only at this; omega), ih hm hc]

/-- Every read of a canonical memory is a cell value of the profile. -/
theorem Memory.fits_read {w : Width} {m : Memory} (h : m.wf w) (a : Nat) : w.fits (m.read a) = true := by
  by_cases hl : ∃ c ∈ m, c.1 = a
  · obtain ⟨c, hc, rfl⟩ := hl
    rw [Memory.read_of_mem h.1 hc]
    exact (h.2 c hc).2.2.2
  · have : m.read a = Memory.unlisted := by
      clear h
      induction m with
      | nil => rfl
      | cons d m ih =>
        obtain ⟨b, u⟩ := d
        have hb : a ≠ b := fun e => hl ⟨(b, u), by simp, e.symm⟩
        rw [Memory.read, if_neg hb]
        exact ih fun ⟨c, hc, e⟩ => hl ⟨c, by simp [hc], e⟩
    rw [this]
    cases w <;> decide

end Sys2Proof.Machine
end

