-- ==== Sys2Proof/Laws/Profile.lean ====
section
/-! SUPPORT. Small laws of the width profile, of the reductions to a cell and to an address, of the two-cell word, and
of setting one bit. -/

namespace Sys2Proof

theorem Width.dw_cases (w : Width) : w.dw = 8 ∨ w.dw = 16 ∨ w.dw = 32 := by
  cases w <;> simp [Width.dw]

theorem Width.dw_le (w : Width) : w.dw ≤ 32 := by cases w <;> decide

theorem Width.eight_le_dw (w : Width) : 8 ≤ w.dw := by cases w <;> decide

theorem Width.dw_le_aw (w : Width) : w.dw ≤ w.aw := by cases w <;> decide

theorem Width.aw_le (w : Width) : w.aw ≤ 32 := by cases w <;> decide

theorem Width.pow_dw_le (w : Width) : 2 ^ w.dw ≤ 2 ^ 32 := by cases w <;> decide

theorem Width.pow_aw_le (w : Width) : 2 ^ w.aw ≤ 2 ^ 32 := by cases w <;> decide

theorem Width.pow_dw_le_pow_aw (w : Width) : 2 ^ w.dw ≤ 2 ^ w.aw := by cases w <;> decide

theorem Width.pow_dw_pos (w : Width) : 0 < 2 ^ w.dw := by positivity

theorem Width.pow_aw_pos (w : Width) : 0 < 2 ^ w.aw := by positivity

theorem Width.addrMask_eq (w : Width) : w.addrMask = 2 ^ w.aw - 1 := by cases w <;> decide

theorem Width.le_addrMask_iff (w : Width) (n : Nat) : n ≤ w.addrMask ↔ n < 2 ^ w.aw := by
  have := w.pow_aw_pos
  rw [w.addrMask_eq]; omega

theorem Width.fits_iff (w : Width) (v : Word) : w.fits v = true ↔ v.toNat < 2 ^ w.dw := by
  simp [Width.fits]

@[simp] theorem Width.toNat_cell (w : Width) (n : Nat) : (w.cell n).toNat = n % 2 ^ w.dw := by
  have h1 := Nat.mod_lt n w.pow_dw_pos
  have h2 := w.pow_dw_le
  simp only [Width.cell, BitVec.toNat_ofNat]
  exact Nat.mod_eq_of_lt (by omega)

@[simp] theorem Width.fits_cell (w : Width) (n : Nat) : w.fits (w.cell n) = true := by
  simpa [Width.fits_iff] using Nat.mod_lt n w.pow_dw_pos

theorem Width.cell_toNat_of_fits {w : Width} {v : Word} (h : w.fits v = true) : w.cell v.toNat = v := by
  apply BitVec.eq_of_toNat_eq
  rw [Width.toNat_cell, Nat.mod_eq_of_lt ((w.fits_iff v).1 h)]

@[simp] theorem Width.cell_cell (w : Width) (n : Nat) : w.cell (w.cell n).toNat = w.cell n :=
  Width.cell_toNat_of_fits (w.fits_cell n)

theorem Width.toNat_cellInt (w : Width) (n : Int) : ((w.cellInt n).toNat : Int) = n % (2 ^ w.dw : Nat) := by
  have h0 : ((2 ^ w.dw : Nat) : Int) ≠ 0 := by have := w.pow_dw_pos; omega
  have h1 := Int.emod_lt_of_pos n (by have := w.pow_dw_pos; omega : (0 : Int) < (2 ^ w.dw : Nat))
  have h2 := Int.emod_nonneg n h0
  have h3 := w.pow_dw_le
  simp only [Width.cellInt, BitVec.toNat_ofNat]
  rw [Nat.mod_eq_of_lt (by omega)]
  omega

@[simp] theorem Width.fits_cellInt (w : Width) (n : Int) : w.fits (w.cellInt n) = true := by
  have h := w.toNat_cellInt n
  have h1 := Int.emod_lt_of_pos n (by have := w.pow_dw_pos; omega : (0 : Int) < (2 ^ w.dw : Nat))
  rw [Width.fits_iff]; omega

@[simp] theorem Width.cell_cellInt (w : Width) (n : Int) : w.cell (w.cellInt n).toNat = w.cellInt n :=
  Width.cell_toNat_of_fits (w.fits_cellInt n)

theorem Width.addr_lt (w : Width) (n : Nat) : w.addr n < 2 ^ w.aw := Nat.mod_lt _ w.pow_aw_pos

theorem Width.addr_of_lt {w : Width} {n : Nat} (h : n < 2 ^ w.aw) : w.addr n = n := Nat.mod_eq_of_lt h

@[simp] theorem Width.addr_addr (w : Width) (n : Nat) : w.addr (w.addr n) = w.addr n :=
  Width.addr_of_lt (w.addr_lt n)

@[simp] theorem Width.toNat_addrWord (w : Width) (n : Nat) : (w.addrWord n).toNat = w.addr n := by
  have h1 := w.addr_lt n
  have h2 := w.pow_aw_le
  rw [Width.addrWord, BitVec.toNat_ofNat]; exact Nat.mod_eq_of_lt (by omega)

/-- An address is itself as a PC value. -/
theorem Width.addrWord_toNat_of_lt {w : Width} {v : Word} (h : v.toNat < 2 ^ w.aw) : w.addrWord v.toNat = v := by
  apply BitVec.eq_of_toNat_eq
  rw [Width.toNat_addrWord, Width.addr_of_lt h]

theorem Width.word_lt (w : Width) (lo hi : Word) : w.word lo hi < 2 ^ w.aw := w.addr_lt _

theorem Width.lt_pow_aw_of_fits {w : Width} {v : Word} (h : w.fits v = true) : v.toNat < 2 ^ w.aw :=
  Nat.lt_of_lt_of_le ((w.fits_iff v).1 h) w.pow_dw_le_pow_aw

/-- `v AND v2 = v`-style facts: bitwise operations stay in range. -/
theorem Width.fits_and {w : Width} {u v : Word} (h : w.fits u = true) : w.fits (u &&& v) = true := by
  rw [Width.fits_iff] at *
  rw [BitVec.toNat_and]
  exact Nat.lt_of_le_of_lt Nat.and_le_left h

theorem Width.fits_or {w : Width} {u v : Word} (hu : w.fits u = true) (hv : w.fits v = true) :
    w.fits (u ||| v) = true := by
  rw [Width.fits_iff] at *
  rw [BitVec.toNat_or]
  exact Nat.or_lt_two_pow hu hv

theorem Width.fits_xor {w : Width} {u v : Word} (hu : w.fits u = true) (hv : w.fits v = true) :
    w.fits (u ^^^ v) = true := by
  rw [Width.fits_iff] at *
  rw [BitVec.toNat_xor]
  exact Nat.xor_lt_two_pow hu hv

/-- A bit of a reduced value: the bits below `dw` are kept, the others are 0. -/
theorem Width.getLsbD_cell (w : Width) (v : Word) (k : Nat) :
    (w.cell v.toNat).getLsbD k = (decide (k < w.dw) && v.getLsbD k) := by
  simp only [BitVec.getLsbD, Width.toNat_cell, Nat.testBit_mod_two_pow]

theorem Width.getLsbD_of_fits {w : Width} {v : Word} (h : w.fits v = true) {k : Nat} (hk : w.dw ≤ k) :
    v.getLsbD k = false := by
  rw [← Width.cell_toNat_of_fits h, Width.getLsbD_cell]
  simp [Nat.not_lt.2 hk]

theorem Word.getLsbD_setBit (v : Word) (k j : Nat) (b : Bool) (hk : k < 32) :
    (v.setBit k b).getLsbD j = if j = k then b else v.getLsbD j := by
  unfold Word.setBit
  by_cases hj : j < 32
  · have h1 : decide (j - k = 0) = decide (j ≤ k) := by simp [Nat.sub_eq_zero_iff_le]
    cases b <;> by_cases hjk : j = k <;> (simp_all; try omega)
  · have hjk : j ≠ k := by omega
    rw [if_neg hjk, BitVec.getLsbD_of_ge _ _ (by omega), BitVec.getLsbD_of_ge _ _ (by omega)]

/-- At dw = 8 and 16 the two limbs make the exact address; at dw = 32 the word is the low limb (20_memory R54, R55). -/
theorem Width.word_w32 (lo hi : Word) : Width.word .w32 lo hi = lo.toNat := by
  have : lo.toNat < 2 ^ 32 := lo.isLt
  have h1 : Width.dw .w32 = 32 := rfl
  have h2 : Width.aw .w32 = 32 := rfl
  rw [Width.word, Width.addr, h1, h2]
  omega

theorem Width.stackBase_add_lt (w : Width) {v : Word} (h : w.fits v = true) :
    w.stackBase + v.toNat < 2 ^ w.aw := by
  have := (w.fits_iff v).1 h
  cases w <;> simp only [Width.stackBase, Width.dw, Width.aw] at * <;> norm_num at * <;> omega

theorem Width.two_mul_signBit (w : Width) : 2 * 2 ^ (w.dw - 1) = 2 ^ w.dw := by cases w <;> decide

/-- The sign bit of a cell value is set iff it is at least SB (10_state R30). -/
theorem Width.msb_eq {w : Width} {v : Word} (h : w.fits v = true) : w.msb v = decide (2 ^ (w.dw - 1) ≤ v.toNat) := by
  have h1 := (w.fits_iff v).1 h
  rw [← w.two_mul_signBit] at h1
  have hp : 0 < 2 ^ (w.dw - 1) := by positivity
  rw [Width.msb, BitVec.getLsbD, Nat.testBit_eq_decide_div_mod_eq]
  by_cases hv : 2 ^ (w.dw - 1) ≤ v.toNat
  · have : v.toNat / 2 ^ (w.dw - 1) = 1 := by apply Nat.div_eq_of_lt_le <;> omega
    simp [this, hv]
  · simp [Nat.div_eq_of_lt (Nat.lt_of_not_le hv), hv]

theorem bitNat_le (b : Bool) : bitNat b ≤ 1 := by cases b <;> decide

end Sys2Proof
end

