-- ==== Sys2Proof/Laws/State.lean ====
section
/-! SUPPORT. What each field of the state is after each update: one lemma per field per update, so that no proof
unfolds a record update. -/

namespace Sys2Proof.Machine

/-! `setA` -/

@[simp] theorem State.setA_width (s : State) (v : Word) : (s.setA v).width = s.width := rfl
@[simp] theorem State.setA_origin (s : State) (v : Word) : (s.setA v).origin = s.origin := rfl
@[simp] theorem State.setA_a (s : State) (v : Word) : (s.setA v).a = s.width.cell v.toNat := rfl
@[simp] theorem State.setA_x (s : State) (v : Word) : (s.setA v).x = s.x := rfl
@[simp] theorem State.setA_y (s : State) (v : Word) : (s.setA v).y = s.y := rfl
@[simp] theorem State.setA_p (s : State) (v : Word) : (s.setA v).p = s.p := rfl
@[simp] theorem State.setA_sp (s : State) (v : Word) : (s.setA v).sp = s.sp := rfl
@[simp] theorem State.setA_pc (s : State) (v : Word) : (s.setA v).pc = s.pc := rfl
@[simp] theorem State.setA_status (s : State) (v : Word) : (s.setA v).status = s.status := rfl
@[simp] theorem State.setA_mem (s : State) (v : Word) : (s.setA v).mem = s.mem := rfl
@[simp] theorem State.setA_randCell (s : State) (v : Word) : (s.setA v).randCell = s.randCell := rfl
@[simp] theorem State.setA_labels (s : State) (v : Word) : (s.setA v).labels = s.labels := rfl
@[simp] theorem State.setA_cursor (s : State) (v : Word) : (s.setA v).cursor = s.cursor := rfl
@[simp] theorem State.setA_codeLength (s : State) (v : Word) : (s.setA v).codeLength = s.codeLength := rfl
@[simp] theorem State.setA_trace (s : State) (v : Word) : (s.setA v).trace = s.trace := rfl
@[simp] theorem State.setA_running (s : State) (v : Word) : (s.setA v).running = s.running := rfl
@[simp] theorem State.setA_draws (s : State) (v : Word) : (s.setA v).draws = s.draws := rfl
@[simp] theorem State.setA_drawCount (s : State) (v : Word) : (s.setA v).drawCount = s.drawCount := rfl
@[simp] theorem State.setA_read (s : State) (v : Word) (a : Nat) : (s.setA v).read a = s.read a := rfl

/-! `setX` -/

@[simp] theorem State.setX_width (s : State) (v : Word) : (s.setX v).width = s.width := rfl
@[simp] theorem State.setX_origin (s : State) (v : Word) : (s.setX v).origin = s.origin := rfl
@[simp] theorem State.setX_a (s : State) (v : Word) : (s.setX v).a = s.a := rfl
@[simp] theorem State.setX_x (s : State) (v : Word) : (s.setX v).x = s.width.cell v.toNat := rfl
@[simp] theorem State.setX_y (s : State) (v : Word) : (s.setX v).y = s.y := rfl
@[simp] theorem State.setX_p (s : State) (v : Word) : (s.setX v).p = s.p := rfl
@[simp] theorem State.setX_sp (s : State) (v : Word) : (s.setX v).sp = s.sp := rfl
@[simp] theorem State.setX_pc (s : State) (v : Word) : (s.setX v).pc = s.pc := rfl
@[simp] theorem State.setX_status (s : State) (v : Word) : (s.setX v).status = s.status := rfl
@[simp] theorem State.setX_mem (s : State) (v : Word) : (s.setX v).mem = s.mem := rfl
@[simp] theorem State.setX_randCell (s : State) (v : Word) : (s.setX v).randCell = s.randCell := rfl
@[simp] theorem State.setX_labels (s : State) (v : Word) : (s.setX v).labels = s.labels := rfl
@[simp] theorem State.setX_cursor (s : State) (v : Word) : (s.setX v).cursor = s.cursor := rfl
@[simp] theorem State.setX_codeLength (s : State) (v : Word) : (s.setX v).codeLength = s.codeLength := rfl
@[simp] theorem State.setX_trace (s : State) (v : Word) : (s.setX v).trace = s.trace := rfl
@[simp] theorem State.setX_running (s : State) (v : Word) : (s.setX v).running = s.running := rfl
@[simp] theorem State.setX_draws (s : State) (v : Word) : (s.setX v).draws = s.draws := rfl
@[simp] theorem State.setX_drawCount (s : State) (v : Word) : (s.setX v).drawCount = s.drawCount := rfl
@[simp] theorem State.setX_read (s : State) (v : Word) (a : Nat) : (s.setX v).read a = s.read a := rfl

/-! `setY` -/

@[simp] theorem State.setY_width (s : State) (v : Word) : (s.setY v).width = s.width := rfl
@[simp] theorem State.setY_origin (s : State) (v : Word) : (s.setY v).origin = s.origin := rfl
@[simp] theorem State.setY_a (s : State) (v : Word) : (s.setY v).a = s.a := rfl
@[simp] theorem State.setY_x (s : State) (v : Word) : (s.setY v).x = s.x := rfl
@[simp] theorem State.setY_y (s : State) (v : Word) : (s.setY v).y = s.width.cell v.toNat := rfl
@[simp] theorem State.setY_p (s : State) (v : Word) : (s.setY v).p = s.p := rfl
@[simp] theorem State.setY_sp (s : State) (v : Word) : (s.setY v).sp = s.sp := rfl
@[simp] theorem State.setY_pc (s : State) (v : Word) : (s.setY v).pc = s.pc := rfl
@[simp] theorem State.setY_status (s : State) (v : Word) : (s.setY v).status = s.status := rfl
@[simp] theorem State.setY_mem (s : State) (v : Word) : (s.setY v).mem = s.mem := rfl
@[simp] theorem State.setY_randCell (s : State) (v : Word) : (s.setY v).randCell = s.randCell := rfl
@[simp] theorem State.setY_labels (s : State) (v : Word) : (s.setY v).labels = s.labels := rfl
@[simp] theorem State.setY_cursor (s : State) (v : Word) : (s.setY v).cursor = s.cursor := rfl
@[simp] theorem State.setY_codeLength (s : State) (v : Word) : (s.setY v).codeLength = s.codeLength := rfl
@[simp] theorem State.setY_trace (s : State) (v : Word) : (s.setY v).trace = s.trace := rfl
@[simp] theorem State.setY_running (s : State) (v : Word) : (s.setY v).running = s.running := rfl
@[simp] theorem State.setY_draws (s : State) (v : Word) : (s.setY v).draws = s.draws := rfl
@[simp] theorem State.setY_drawCount (s : State) (v : Word) : (s.setY v).drawCount = s.drawCount := rfl
@[simp] theorem State.setY_read (s : State) (v : Word) (a : Nat) : (s.setY v).read a = s.read a := rfl

/-! `setP` -/

@[simp] theorem State.setP_width (s : State) (v : Word) : (s.setP v).width = s.width := rfl
@[simp] theorem State.setP_origin (s : State) (v : Word) : (s.setP v).origin = s.origin := rfl
@[simp] theorem State.setP_a (s : State) (v : Word) : (s.setP v).a = s.a := rfl
@[simp] theorem State.setP_x (s : State) (v : Word) : (s.setP v).x = s.x := rfl
@[simp] theorem State.setP_y (s : State) (v : Word) : (s.setP v).y = s.y := rfl
@[simp] theorem State.setP_p (s : State) (v : Word) : (s.setP v).p = s.width.cell v.toNat := rfl
@[simp] theorem State.setP_sp (s : State) (v : Word) : (s.setP v).sp = s.sp := rfl
@[simp] theorem State.setP_pc (s : State) (v : Word) : (s.setP v).pc = s.pc := rfl
@[simp] theorem State.setP_status (s : State) (v : Word) : (s.setP v).status = s.status := rfl
@[simp] theorem State.setP_mem (s : State) (v : Word) : (s.setP v).mem = s.mem := rfl
@[simp] theorem State.setP_randCell (s : State) (v : Word) : (s.setP v).randCell = s.randCell := rfl
@[simp] theorem State.setP_labels (s : State) (v : Word) : (s.setP v).labels = s.labels := rfl
@[simp] theorem State.setP_cursor (s : State) (v : Word) : (s.setP v).cursor = s.cursor := rfl
@[simp] theorem State.setP_codeLength (s : State) (v : Word) : (s.setP v).codeLength = s.codeLength := rfl
@[simp] theorem State.setP_trace (s : State) (v : Word) : (s.setP v).trace = s.trace := rfl
@[simp] theorem State.setP_running (s : State) (v : Word) : (s.setP v).running = s.running := rfl
@[simp] theorem State.setP_draws (s : State) (v : Word) : (s.setP v).draws = s.draws := rfl
@[simp] theorem State.setP_drawCount (s : State) (v : Word) : (s.setP v).drawCount = s.drawCount := rfl
@[simp] theorem State.setP_read (s : State) (v : Word) (a : Nat) : (s.setP v).read a = s.read a := rfl

/-! `setSp` -/

@[simp] theorem State.setSp_width (s : State) (v : Word) : (s.setSp v).width = s.width := rfl
@[simp] theorem State.setSp_origin (s : State) (v : Word) : (s.setSp v).origin = s.origin := rfl
@[simp] theorem State.setSp_a (s : State) (v : Word) : (s.setSp v).a = s.a := rfl
@[simp] theorem State.setSp_x (s : State) (v : Word) : (s.setSp v).x = s.x := rfl
@[simp] theorem State.setSp_y (s : State) (v : Word) : (s.setSp v).y = s.y := rfl
@[simp] theorem State.setSp_p (s : State) (v : Word) : (s.setSp v).p = s.p := rfl
@[simp] theorem State.setSp_sp (s : State) (v : Word) : (s.setSp v).sp = s.width.cell v.toNat := rfl
@[simp] theorem State.setSp_pc (s : State) (v : Word) : (s.setSp v).pc = s.pc := rfl
@[simp] theorem State.setSp_status (s : State) (v : Word) : (s.setSp v).status = s.status := rfl
@[simp] theorem State.setSp_mem (s : State) (v : Word) : (s.setSp v).mem = s.mem := rfl
@[simp] theorem State.setSp_randCell (s : State) (v : Word) : (s.setSp v).randCell = s.randCell := rfl
@[simp] theorem State.setSp_labels (s : State) (v : Word) : (s.setSp v).labels = s.labels := rfl
@[simp] theorem State.setSp_cursor (s : State) (v : Word) : (s.setSp v).cursor = s.cursor := rfl
@[simp] theorem State.setSp_codeLength (s : State) (v : Word) : (s.setSp v).codeLength = s.codeLength := rfl
@[simp] theorem State.setSp_trace (s : State) (v : Word) : (s.setSp v).trace = s.trace := rfl
@[simp] theorem State.setSp_running (s : State) (v : Word) : (s.setSp v).running = s.running := rfl
@[simp] theorem State.setSp_draws (s : State) (v : Word) : (s.setSp v).draws = s.draws := rfl
@[simp] theorem State.setSp_drawCount (s : State) (v : Word) : (s.setSp v).drawCount = s.drawCount := rfl
@[simp] theorem State.setSp_read (s : State) (v : Word) (a : Nat) : (s.setSp v).read a = s.read a := rfl

/-! `setPc` -/

@[simp] theorem State.setPc_width (s : State) (n : Nat) : (s.setPc n).width = s.width := rfl
@[simp] theorem State.setPc_origin (s : State) (n : Nat) : (s.setPc n).origin = s.origin := rfl
@[simp] theorem State.setPc_a (s : State) (n : Nat) : (s.setPc n).a = s.a := rfl
@[simp] theorem State.setPc_x (s : State) (n : Nat) : (s.setPc n).x = s.x := rfl
@[simp] theorem State.setPc_y (s : State) (n : Nat) : (s.setPc n).y = s.y := rfl
@[simp] theorem State.setPc_p (s : State) (n : Nat) : (s.setPc n).p = s.p := rfl
@[simp] theorem State.setPc_sp (s : State) (n : Nat) : (s.setPc n).sp = s.sp := rfl
@[simp] theorem State.setPc_pc (s : State) (n : Nat) : (s.setPc n).pc = s.width.addrWord n := rfl
@[simp] theorem State.setPc_status (s : State) (n : Nat) : (s.setPc n).status = s.status := rfl
@[simp] theorem State.setPc_mem (s : State) (n : Nat) : (s.setPc n).mem = s.mem := rfl
@[simp] theorem State.setPc_randCell (s : State) (n : Nat) : (s.setPc n).randCell = s.randCell := rfl
@[simp] theorem State.setPc_labels (s : State) (n : Nat) : (s.setPc n).labels = s.labels := rfl
@[simp] theorem State.setPc_cursor (s : State) (n : Nat) : (s.setPc n).cursor = s.cursor := rfl
@[simp] theorem State.setPc_codeLength (s : State) (n : Nat) : (s.setPc n).codeLength = s.codeLength := rfl
@[simp] theorem State.setPc_trace (s : State) (n : Nat) : (s.setPc n).trace = s.trace := rfl
@[simp] theorem State.setPc_running (s : State) (n : Nat) : (s.setPc n).running = s.running := rfl
@[simp] theorem State.setPc_draws (s : State) (n : Nat) : (s.setPc n).draws = s.draws := rfl
@[simp] theorem State.setPc_drawCount (s : State) (n : Nat) : (s.setPc n).drawCount = s.drawCount := rfl
@[simp] theorem State.setPc_read (s : State) (n : Nat) (a : Nat) : (s.setPc n).read a = s.read a := rfl

/-! `emit` -/

@[simp] theorem State.emit_width (s : State) (e : Event) : (s.emit e).width = s.width := rfl
@[simp] theorem State.emit_origin (s : State) (e : Event) : (s.emit e).origin = s.origin := rfl
@[simp] theorem State.emit_a (s : State) (e : Event) : (s.emit e).a = s.a := rfl
@[simp] theorem State.emit_x (s : State) (e : Event) : (s.emit e).x = s.x := rfl
@[simp] theorem State.emit_y (s : State) (e : Event) : (s.emit e).y = s.y := rfl
@[simp] theorem State.emit_p (s : State) (e : Event) : (s.emit e).p = s.p := rfl
@[simp] theorem State.emit_sp (s : State) (e : Event) : (s.emit e).sp = s.sp := rfl
@[simp] theorem State.emit_pc (s : State) (e : Event) : (s.emit e).pc = s.pc := rfl
@[simp] theorem State.emit_status (s : State) (e : Event) : (s.emit e).status = s.status := rfl
@[simp] theorem State.emit_mem (s : State) (e : Event) : (s.emit e).mem = s.mem := rfl
@[simp] theorem State.emit_randCell (s : State) (e : Event) : (s.emit e).randCell = s.randCell := rfl
@[simp] theorem State.emit_labels (s : State) (e : Event) : (s.emit e).labels = s.labels := rfl
@[simp] theorem State.emit_cursor (s : State) (e : Event) : (s.emit e).cursor = s.cursor := rfl
@[simp] theorem State.emit_codeLength (s : State) (e : Event) : (s.emit e).codeLength = s.codeLength := rfl
@[simp] theorem State.emit_trace (s : State) (e : Event) : (s.emit e).trace = e :: s.trace := rfl
@[simp] theorem State.emit_running (s : State) (e : Event) : (s.emit e).running = s.running := rfl
@[simp] theorem State.emit_draws (s : State) (e : Event) : (s.emit e).draws = s.draws := rfl
@[simp] theorem State.emit_drawCount (s : State) (e : Event) : (s.emit e).drawCount = s.drawCount := rfl
@[simp] theorem State.emit_read (s : State) (e : Event) (a : Nat) : (s.emit e).read a = s.read a := rfl

/-! `poke` and `store` -/

@[simp] theorem State.poke_width (s : State) (a : Nat) (v : Word) : (s.poke a v).width = s.width := by
  unfold State.poke; split <;> rfl
@[simp] theorem State.poke_origin (s : State) (a : Nat) (v : Word) : (s.poke a v).origin = s.origin := by
  unfold State.poke; split <;> rfl
@[simp] theorem State.poke_a (s : State) (a : Nat) (v : Word) : (s.poke a v).a = s.a := by
  unfold State.poke; split <;> rfl
@[simp] theorem State.poke_x (s : State) (a : Nat) (v : Word) : (s.poke a v).x = s.x := by
  unfold State.poke; split <;> rfl
@[simp] theorem State.poke_y (s : State) (a : Nat) (v : Word) : (s.poke a v).y = s.y := by
  unfold State.poke; split <;> rfl
@[simp] theorem State.poke_p (s : State) (a : Nat) (v : Word) : (s.poke a v).p = s.p := by
  unfold State.poke; split <;> rfl
@[simp] theorem State.poke_sp (s : State) (a : Nat) (v : Word) : (s.poke a v).sp = s.sp := by
  unfold State.poke; split <;> rfl
@[simp] theorem State.poke_pc (s : State) (a : Nat) (v : Word) : (s.poke a v).pc = s.pc := by
  unfold State.poke; split <;> rfl
@[simp] theorem State.poke_status (s : State) (a : Nat) (v : Word) : (s.poke a v).status = s.status := by
  unfold State.poke; split <;> rfl
@[simp] theorem State.poke_labels (s : State) (a : Nat) (v : Word) : (s.poke a v).labels = s.labels := by
  unfold State.poke; split <;> rfl
@[simp] theorem State.poke_cursor (s : State) (a : Nat) (v : Word) : (s.poke a v).cursor = s.cursor := by
  unfold State.poke; split <;> rfl
@[simp] theorem State.poke_codeLength (s : State) (a : Nat) (v : Word) : (s.poke a v).codeLength = s.codeLength := by
  unfold State.poke; split <;> rfl
@[simp] theorem State.poke_trace (s : State) (a : Nat) (v : Word) : (s.poke a v).trace = s.trace := by
  unfold State.poke; split <;> rfl
@[simp] theorem State.poke_running (s : State) (a : Nat) (v : Word) : (s.poke a v).running = s.running := by
  unfold State.poke; split <;> rfl
@[simp] theorem State.poke_draws (s : State) (a : Nat) (v : Word) : (s.poke a v).draws = s.draws := by
  unfold State.poke; split <;> rfl
@[simp] theorem State.poke_drawCount (s : State) (a : Nat) (v : Word) : (s.poke a v).drawCount = s.drawCount := by
  unfold State.poke; split <;> rfl
@[simp] theorem State.store_width (s : State) (a : Nat) (v : Word) :
    (s.store a v).width = s.width := by
  simp [State.store]
@[simp] theorem State.store_origin (s : State) (a : Nat) (v : Word) :
    (s.store a v).origin = s.origin := by
  simp [State.store]
@[simp] theorem State.store_a (s : State) (a : Nat) (v : Word) :
    (s.store a v).a = s.a := by
  simp [State.store]
@[simp] theorem State.store_x (s : State) (a : Nat) (v : Word) :
    (s.store a v).x = s.x := by
  simp [State.store]
@[simp] theorem State.store_y (s : State) (a : Nat) (v : Word) :
    (s.store a v).y = s.y := by
  simp [State.store]
@[simp] theorem State.store_p (s : State) (a : Nat) (v : Word) :
    (s.store a v).p = s.p := by
  simp [State.store]
@[simp] theorem State.store_sp (s : State) (a : Nat) (v : Word) :
    (s.store a v).sp = s.sp := by
  simp [State.store]
@[simp] theorem State.store_pc (s : State) (a : Nat) (v : Word) :
    (s.store a v).pc = s.pc := by
  simp [State.store]
@[simp] theorem State.store_status (s : State) (a : Nat) (v : Word) :
    (s.store a v).status = s.status := by
  simp [State.store]
@[simp] theorem State.store_labels (s : State) (a : Nat) (v : Word) :
    (s.store a v).labels = s.labels := by
  simp [State.store]
@[simp] theorem State.store_cursor (s : State) (a : Nat) (v : Word) :
    (s.store a v).cursor = s.cursor := by
  simp [State.store]
@[simp] theorem State.store_codeLength (s : State) (a : Nat) (v : Word) :
    (s.store a v).codeLength = s.codeLength := by
  simp [State.store]
@[simp] theorem State.store_trace (s : State) (a : Nat) (v : Word) :
    (s.store a v).trace = .onMemoryWrite a (s.width.cell v.toNat) :: s.trace := by
  simp [State.store]
@[simp] theorem State.store_running (s : State) (a : Nat) (v : Word) :
    (s.store a v).running = s.running := by
  simp [State.store]
@[simp] theorem State.store_draws (s : State) (a : Nat) (v : Word) :
    (s.store a v).draws = s.draws := by
  simp [State.store]
@[simp] theorem State.store_drawCount (s : State) (a : Nat) (v : Word) :
    (s.store a v).drawCount = s.drawCount := by
  simp [State.store]

/-! `setNZ` and the single flags: every field but P -/

@[simp] theorem State.setFlag_width (s : State) (k : Nat) (b : Bool) : (s.setFlag k b).width = s.width := rfl
@[simp] theorem State.setFlag_origin (s : State) (k : Nat) (b : Bool) : (s.setFlag k b).origin = s.origin := rfl
@[simp] theorem State.setFlag_a (s : State) (k : Nat) (b : Bool) : (s.setFlag k b).a = s.a := rfl
@[simp] theorem State.setFlag_x (s : State) (k : Nat) (b : Bool) : (s.setFlag k b).x = s.x := rfl
@[simp] theorem State.setFlag_y (s : State) (k : Nat) (b : Bool) : (s.setFlag k b).y = s.y := rfl
@[simp] theorem State.setFlag_sp (s : State) (k : Nat) (b : Bool) : (s.setFlag k b).sp = s.sp := rfl
@[simp] theorem State.setFlag_pc (s : State) (k : Nat) (b : Bool) : (s.setFlag k b).pc = s.pc := rfl
@[simp] theorem State.setFlag_status (s : State) (k : Nat) (b : Bool) : (s.setFlag k b).status = s.status := rfl
@[simp] theorem State.setFlag_mem (s : State) (k : Nat) (b : Bool) : (s.setFlag k b).mem = s.mem := rfl
@[simp] theorem State.setFlag_randCell (s : State) (k : Nat) (b : Bool) : (s.setFlag k b).randCell = s.randCell := rfl
@[simp] theorem State.setFlag_labels (s : State) (k : Nat) (b : Bool) : (s.setFlag k b).labels = s.labels := rfl
@[simp] theorem State.setFlag_cursor (s : State) (k : Nat) (b : Bool) : (s.setFlag k b).cursor = s.cursor := rfl
@[simp] theorem State.setFlag_codeLength (s : State) (k : Nat) (b : Bool) : (s.setFlag k b).codeLength = s.codeLength := rfl
@[simp] theorem State.setFlag_trace (s : State) (k : Nat) (b : Bool) : (s.setFlag k b).trace = s.trace := rfl
@[simp] theorem State.setFlag_running (s : State) (k : Nat) (b : Bool) : (s.setFlag k b).running = s.running := rfl
@[simp] theorem State.setFlag_draws (s : State) (k : Nat) (b : Bool) : (s.setFlag k b).draws = s.draws := rfl
@[simp] theorem State.setFlag_drawCount (s : State) (k : Nat) (b : Bool) : (s.setFlag k b).drawCount = s.drawCount := rfl
@[simp] theorem State.setFlag_read (s : State) (k : Nat) (b : Bool) (a : Nat) : (s.setFlag k b).read a = s.read a := rfl

@[simp] theorem State.setC_width (s : State) (b : Bool) : (s.setC b).width = s.width := rfl
@[simp] theorem State.setC_origin (s : State) (b : Bool) : (s.setC b).origin = s.origin := rfl
@[simp] theorem State.setC_a (s : State) (b : Bool) : (s.setC b).a = s.a := rfl
@[simp] theorem State.setC_x (s : State) (b : Bool) : (s.setC b).x = s.x := rfl
@[simp] theorem State.setC_y (s : State) (b : Bool) : (s.setC b).y = s.y := rfl
@[simp] theorem State.setC_sp (s : State) (b : Bool) : (s.setC b).sp = s.sp := rfl
@[simp] theorem State.setC_pc (s : State) (b : Bool) : (s.setC b).pc = s.pc := rfl
@[simp] theorem State.setC_status (s : State) (b : Bool) : (s.setC b).status = s.status := rfl
@[simp] theorem State.setC_mem (s : State) (b : Bool) : (s.setC b).mem = s.mem := rfl
@[simp] theorem State.setC_randCell (s : State) (b : Bool) : (s.setC b).randCell = s.randCell := rfl
@[simp] theorem State.setC_labels (s : State) (b : Bool) : (s.setC b).labels = s.labels := rfl
@[simp] theorem State.setC_cursor (s : State) (b : Bool) : (s.setC b).cursor = s.cursor := rfl
@[simp] theorem State.setC_codeLength (s : State) (b : Bool) : (s.setC b).codeLength = s.codeLength := rfl
@[simp] theorem State.setC_trace (s : State) (b : Bool) : (s.setC b).trace = s.trace := rfl
@[simp] theorem State.setC_running (s : State) (b : Bool) : (s.setC b).running = s.running := rfl
@[simp] theorem State.setC_draws (s : State) (b : Bool) : (s.setC b).draws = s.draws := rfl
@[simp] theorem State.setC_drawCount (s : State) (b : Bool) : (s.setC b).drawCount = s.drawCount := rfl
@[simp] theorem State.setC_read (s : State) (b : Bool) (a : Nat) : (s.setC b).read a = s.read a := rfl

@[simp] theorem State.setZ_width (s : State) (b : Bool) : (s.setZ b).width = s.width := rfl
@[simp] theorem State.setZ_origin (s : State) (b : Bool) : (s.setZ b).origin = s.origin := rfl
@[simp] theorem State.setZ_a (s : State) (b : Bool) : (s.setZ b).a = s.a := rfl
@[simp] theorem State.setZ_x (s : State) (b : Bool) : (s.setZ b).x = s.x := rfl
@[simp] theorem State.setZ_y (s : State) (b : Bool) : (s.setZ b).y = s.y := rfl
@[simp] theorem State.setZ_sp (s : State) (b : Bool) : (s.setZ b).sp = s.sp := rfl
@[simp] theorem State.setZ_pc (s : State) (b : Bool) : (s.setZ b).pc = s.pc := rfl
@[simp] theorem State.setZ_status (s : State) (b : Bool) : (s.setZ b).status = s.status := rfl
@[simp] theorem State.setZ_mem (s : State) (b : Bool) : (s.setZ b).mem = s.mem := rfl
@[simp] theorem State.setZ_randCell (s : State) (b : Bool) : (s.setZ b).randCell = s.randCell := rfl
@[simp] theorem State.setZ_labels (s : State) (b : Bool) : (s.setZ b).labels = s.labels := rfl
@[simp] theorem State.setZ_cursor (s : State) (b : Bool) : (s.setZ b).cursor = s.cursor := rfl
@[simp] theorem State.setZ_codeLength (s : State) (b : Bool) : (s.setZ b).codeLength = s.codeLength := rfl
@[simp] theorem State.setZ_trace (s : State) (b : Bool) : (s.setZ b).trace = s.trace := rfl
@[simp] theorem State.setZ_running (s : State) (b : Bool) : (s.setZ b).running = s.running := rfl
@[simp] theorem State.setZ_draws (s : State) (b : Bool) : (s.setZ b).draws = s.draws := rfl
@[simp] theorem State.setZ_drawCount (s : State) (b : Bool) : (s.setZ b).drawCount = s.drawCount := rfl
@[simp] theorem State.setZ_read (s : State) (b : Bool) (a : Nat) : (s.setZ b).read a = s.read a := rfl

@[simp] theorem State.setD_width (s : State) (b : Bool) : (s.setD b).width = s.width := rfl
@[simp] theorem State.setD_origin (s : State) (b : Bool) : (s.setD b).origin = s.origin := rfl
@[simp] theorem State.setD_a (s : State) (b : Bool) : (s.setD b).a = s.a := rfl
@[simp] theorem State.setD_x (s : State) (b : Bool) : (s.setD b).x = s.x := rfl
@[simp] theorem State.setD_y (s : State) (b : Bool) : (s.setD b).y = s.y := rfl
@[simp] theorem State.setD_sp (s : State) (b : Bool) : (s.setD b).sp = s.sp := rfl
@[simp] theorem State.setD_pc (s : State) (b : Bool) : (s.setD b).pc = s.pc := rfl
@[simp] theorem State.setD_status (s : State) (b : Bool) : (s.setD b).status = s.status := rfl
@[simp] theorem State.setD_mem (s : State) (b : Bool) : (s.setD b).mem = s.mem := rfl
@[simp] theorem State.setD_randCell (s : State) (b : Bool) : (s.setD b).randCell = s.randCell := rfl
@[simp] theorem State.setD_labels (s : State) (b : Bool) : (s.setD b).labels = s.labels := rfl
@[simp] theorem State.setD_cursor (s : State) (b : Bool) : (s.setD b).cursor = s.cursor := rfl
@[simp] theorem State.setD_codeLength (s : State) (b : Bool) : (s.setD b).codeLength = s.codeLength := rfl
@[simp] theorem State.setD_trace (s : State) (b : Bool) : (s.setD b).trace = s.trace := rfl
@[simp] theorem State.setD_running (s : State) (b : Bool) : (s.setD b).running = s.running := rfl
@[simp] theorem State.setD_draws (s : State) (b : Bool) : (s.setD b).draws = s.draws := rfl
@[simp] theorem State.setD_drawCount (s : State) (b : Bool) : (s.setD b).drawCount = s.drawCount := rfl
@[simp] theorem State.setD_read (s : State) (b : Bool) (a : Nat) : (s.setD b).read a = s.read a := rfl

@[simp] theorem State.setV_width (s : State) (b : Bool) : (s.setV b).width = s.width := rfl
@[simp] theorem State.setV_origin (s : State) (b : Bool) : (s.setV b).origin = s.origin := rfl
@[simp] theorem State.setV_a (s : State) (b : Bool) : (s.setV b).a = s.a := rfl
@[simp] theorem State.setV_x (s : State) (b : Bool) : (s.setV b).x = s.x := rfl
@[simp] theorem State.setV_y (s : State) (b : Bool) : (s.setV b).y = s.y := rfl
@[simp] theorem State.setV_sp (s : State) (b : Bool) : (s.setV b).sp = s.sp := rfl
@[simp] theorem State.setV_pc (s : State) (b : Bool) : (s.setV b).pc = s.pc := rfl
@[simp] theorem State.setV_status (s : State) (b : Bool) : (s.setV b).status = s.status := rfl
@[simp] theorem State.setV_mem (s : State) (b : Bool) : (s.setV b).mem = s.mem := rfl
@[simp] theorem State.setV_randCell (s : State) (b : Bool) : (s.setV b).randCell = s.randCell := rfl
@[simp] theorem State.setV_labels (s : State) (b : Bool) : (s.setV b).labels = s.labels := rfl
@[simp] theorem State.setV_cursor (s : State) (b : Bool) : (s.setV b).cursor = s.cursor := rfl
@[simp] theorem State.setV_codeLength (s : State) (b : Bool) : (s.setV b).codeLength = s.codeLength := rfl
@[simp] theorem State.setV_trace (s : State) (b : Bool) : (s.setV b).trace = s.trace := rfl
@[simp] theorem State.setV_running (s : State) (b : Bool) : (s.setV b).running = s.running := rfl
@[simp] theorem State.setV_draws (s : State) (b : Bool) : (s.setV b).draws = s.draws := rfl
@[simp] theorem State.setV_drawCount (s : State) (b : Bool) : (s.setV b).drawCount = s.drawCount := rfl
@[simp] theorem State.setV_read (s : State) (b : Bool) (a : Nat) : (s.setV b).read a = s.read a := rfl

@[simp] theorem State.setN_width (s : State) (b : Bool) : (s.setN b).width = s.width := rfl
@[simp] theorem State.setN_origin (s : State) (b : Bool) : (s.setN b).origin = s.origin := rfl
@[simp] theorem State.setN_a (s : State) (b : Bool) : (s.setN b).a = s.a := rfl
@[simp] theorem State.setN_x (s : State) (b : Bool) : (s.setN b).x = s.x := rfl
@[simp] theorem State.setN_y (s : State) (b : Bool) : (s.setN b).y = s.y := rfl
@[simp] theorem State.setN_sp (s : State) (b : Bool) : (s.setN b).sp = s.sp := rfl
@[simp] theorem State.setN_pc (s : State) (b : Bool) : (s.setN b).pc = s.pc := rfl
@[simp] theorem State.setN_status (s : State) (b : Bool) : (s.setN b).status = s.status := rfl
@[simp] theorem State.setN_mem (s : State) (b : Bool) : (s.setN b).mem = s.mem := rfl
@[simp] theorem State.setN_randCell (s : State) (b : Bool) : (s.setN b).randCell = s.randCell := rfl
@[simp] theorem State.setN_labels (s : State) (b : Bool) : (s.setN b).labels = s.labels := rfl
@[simp] theorem State.setN_cursor (s : State) (b : Bool) : (s.setN b).cursor = s.cursor := rfl
@[simp] theorem State.setN_codeLength (s : State) (b : Bool) : (s.setN b).codeLength = s.codeLength := rfl
@[simp] theorem State.setN_trace (s : State) (b : Bool) : (s.setN b).trace = s.trace := rfl
@[simp] theorem State.setN_running (s : State) (b : Bool) : (s.setN b).running = s.running := rfl
@[simp] theorem State.setN_draws (s : State) (b : Bool) : (s.setN b).draws = s.draws := rfl
@[simp] theorem State.setN_drawCount (s : State) (b : Bool) : (s.setN b).drawCount = s.drawCount := rfl
@[simp] theorem State.setN_read (s : State) (b : Bool) (a : Nat) : (s.setN b).read a = s.read a := rfl

@[simp] theorem State.setNZ_width (s : State) (v : Word) : (s.setNZ v).width = s.width := rfl
@[simp] theorem State.setNZ_origin (s : State) (v : Word) : (s.setNZ v).origin = s.origin := rfl
@[simp] theorem State.setNZ_a (s : State) (v : Word) : (s.setNZ v).a = s.a := rfl
@[simp] theorem State.setNZ_x (s : State) (v : Word) : (s.setNZ v).x = s.x := rfl
@[simp] theorem State.setNZ_y (s : State) (v : Word) : (s.setNZ v).y = s.y := rfl
@[simp] theorem State.setNZ_sp (s : State) (v : Word) : (s.setNZ v).sp = s.sp := rfl
@[simp] theorem State.setNZ_pc (s : State) (v : Word) : (s.setNZ v).pc = s.pc := rfl
@[simp] theorem State.setNZ_status (s : State) (v : Word) : (s.setNZ v).status = s.status := rfl
@[simp] theorem State.setNZ_mem (s : State) (v : Word) : (s.setNZ v).mem = s.mem := rfl
@[simp] theorem State.setNZ_randCell (s : State) (v : Word) : (s.setNZ v).randCell = s.randCell := rfl
@[simp] theorem State.setNZ_labels (s : State) (v : Word) : (s.setNZ v).labels = s.labels := rfl
@[simp] theorem State.setNZ_cursor (s : State) (v : Word) : (s.setNZ v).cursor = s.cursor := rfl
@[simp] theorem State.setNZ_codeLength (s : State) (v : Word) : (s.setNZ v).codeLength = s.codeLength := rfl
@[simp] theorem State.setNZ_trace (s : State) (v : Word) : (s.setNZ v).trace = s.trace := rfl
@[simp] theorem State.setNZ_running (s : State) (v : Word) : (s.setNZ v).running = s.running := rfl
@[simp] theorem State.setNZ_draws (s : State) (v : Word) : (s.setNZ v).draws = s.draws := rfl
@[simp] theorem State.setNZ_drawCount (s : State) (v : Word) : (s.setNZ v).drawCount = s.drawCount := rfl
@[simp] theorem State.setNZ_read (s : State) (v : Word) (a : Nat) : (s.setNZ v).read a = s.read a := rfl

/-! `halt` -/

@[simp] theorem State.halt_width (s : State) (r : HaltReason) (pc : Word) : (s.halt r pc).width = s.width := rfl
@[simp] theorem State.halt_origin (s : State) (r : HaltReason) (pc : Word) : (s.halt r pc).origin = s.origin := rfl
@[simp] theorem State.halt_a (s : State) (r : HaltReason) (pc : Word) : (s.halt r pc).a = s.a := rfl
@[simp] theorem State.halt_x (s : State) (r : HaltReason) (pc : Word) : (s.halt r pc).x = s.x := rfl
@[simp] theorem State.halt_y (s : State) (r : HaltReason) (pc : Word) : (s.halt r pc).y = s.y := rfl
@[simp] theorem State.halt_p (s : State) (r : HaltReason) (pc : Word) : (s.halt r pc).p = s.p := rfl
@[simp] theorem State.halt_sp (s : State) (r : HaltReason) (pc : Word) : (s.halt r pc).sp = s.sp := rfl
@[simp] theorem State.halt_pc (s : State) (r : HaltReason) (pc : Word) : (s.halt r pc).pc = s.pc := rfl
@[simp] theorem State.halt_status (s : State) (r : HaltReason) (pc : Word) : (s.halt r pc).status = .halted r pc := rfl
@[simp] theorem State.halt_mem (s : State) (r : HaltReason) (pc : Word) : (s.halt r pc).mem = s.mem := rfl
@[simp] theorem State.halt_randCell (s : State) (r : HaltReason) (pc : Word) : (s.halt r pc).randCell = s.randCell := rfl
@[simp] theorem State.halt_labels (s : State) (r : HaltReason) (pc : Word) : (s.halt r pc).labels = s.labels := rfl
@[simp] theorem State.halt_cursor (s : State) (r : HaltReason) (pc : Word) : (s.halt r pc).cursor = s.cursor := rfl
@[simp] theorem State.halt_codeLength (s : State) (r : HaltReason) (pc : Word) : (s.halt r pc).codeLength = s.codeLength := rfl
@[simp] theorem State.halt_trace (s : State) (r : HaltReason) (pc : Word) : (s.halt r pc).trace = .onHalt pc r :: s.trace := rfl
@[simp] theorem State.halt_running (s : State) (r : HaltReason) (pc : Word) : (s.halt r pc).running = s.running := rfl
@[simp] theorem State.halt_draws (s : State) (r : HaltReason) (pc : Word) : (s.halt r pc).draws = s.draws := rfl
@[simp] theorem State.halt_drawCount (s : State) (r : HaltReason) (pc : Word) : (s.halt r pc).drawCount = s.drawCount := rfl
@[simp] theorem State.halt_read (s : State) (r : HaltReason) (pc : Word) (a : Nat) :
    (s.halt r pc).read a = s.read a := rfl

/-! `advance` -/

@[simp] theorem State.advance_width (s : State) (n : Nat) : (s.advance n).width = s.width := rfl
@[simp] theorem State.advance_origin (s : State) (n : Nat) : (s.advance n).origin = s.origin := rfl
@[simp] theorem State.advance_a (s : State) (n : Nat) : (s.advance n).a = s.a := rfl
@[simp] theorem State.advance_x (s : State) (n : Nat) : (s.advance n).x = s.x := rfl
@[simp] theorem State.advance_y (s : State) (n : Nat) : (s.advance n).y = s.y := rfl
@[simp] theorem State.advance_p (s : State) (n : Nat) : (s.advance n).p = s.p := rfl
@[simp] theorem State.advance_sp (s : State) (n : Nat) : (s.advance n).sp = s.sp := rfl
@[simp] theorem State.advance_pc (s : State) (n : Nat) : (s.advance n).pc = s.width.addrWord (s.pc.toNat + n) := rfl
@[simp] theorem State.advance_status (s : State) (n : Nat) : (s.advance n).status = s.status := rfl
@[simp] theorem State.advance_mem (s : State) (n : Nat) : (s.advance n).mem = s.mem := rfl
@[simp] theorem State.advance_randCell (s : State) (n : Nat) : (s.advance n).randCell = s.randCell := rfl
@[simp] theorem State.advance_labels (s : State) (n : Nat) : (s.advance n).labels = s.labels := rfl
@[simp] theorem State.advance_cursor (s : State) (n : Nat) : (s.advance n).cursor = s.cursor := rfl
@[simp] theorem State.advance_codeLength (s : State) (n : Nat) : (s.advance n).codeLength = s.codeLength := rfl
@[simp] theorem State.advance_trace (s : State) (n : Nat) : (s.advance n).trace = s.trace := rfl
@[simp] theorem State.advance_running (s : State) (n : Nat) : (s.advance n).running = s.running := rfl
@[simp] theorem State.advance_draws (s : State) (n : Nat) : (s.advance n).draws = s.draws := rfl
@[simp] theorem State.advance_drawCount (s : State) (n : Nat) : (s.advance n).drawCount = s.drawCount := rfl
@[simp] theorem State.advance_read (s : State) (n a : Nat) : (s.advance n).read a = s.read a := rfl

/-! `refresh` -/

@[simp] theorem State.refresh_width (s : State) :
    s.refresh.width = s.width := by
  simp [State.refresh]
@[simp] theorem State.refresh_origin (s : State) :
    s.refresh.origin = s.origin := by
  simp [State.refresh]
@[simp] theorem State.refresh_a (s : State) :
    s.refresh.a = s.a := by
  simp [State.refresh]
@[simp] theorem State.refresh_x (s : State) :
    s.refresh.x = s.x := by
  simp [State.refresh]
@[simp] theorem State.refresh_y (s : State) :
    s.refresh.y = s.y := by
  simp [State.refresh]
@[simp] theorem State.refresh_p (s : State) :
    s.refresh.p = s.p := by
  simp [State.refresh]
@[simp] theorem State.refresh_sp (s : State) :
    s.refresh.sp = s.sp := by
  simp [State.refresh]
@[simp] theorem State.refresh_pc (s : State) :
    s.refresh.pc = s.pc := by
  simp [State.refresh]
@[simp] theorem State.refresh_status (s : State) :
    s.refresh.status = s.status := by
  simp [State.refresh]
@[simp] theorem State.refresh_labels (s : State) :
    s.refresh.labels = s.labels := by
  simp [State.refresh]
@[simp] theorem State.refresh_cursor (s : State) :
    s.refresh.cursor = s.cursor := by
  simp [State.refresh]
@[simp] theorem State.refresh_codeLength (s : State) :
    s.refresh.codeLength = s.codeLength := by
  simp [State.refresh]
@[simp] theorem State.refresh_trace (s : State) :
    s.refresh.trace = .onMemoryWrite randAddr (s.width.cell (s.draw.setWidth 32).toNat) :: s.trace := by
  simp [State.refresh]
@[simp] theorem State.refresh_running (s : State) :
    s.refresh.running = s.running := by
  simp [State.refresh]
@[simp] theorem State.refresh_draws (s : State) :
    s.refresh.draws = s.draws.tail := by
  simp [State.refresh]
@[simp] theorem State.refresh_drawCount (s : State) :
    s.refresh.drawCount = s.drawCount + 1 := by
  simp [State.refresh]
@[simp] theorem State.refresh_mem (s : State) : s.refresh.mem = s.mem := by
  simp [State.refresh, State.store, State.poke]
@[simp] theorem State.refresh_randCell (s : State) :
    s.refresh.randCell = s.width.cell (s.draw.setWidth 32).toNat := by
  simp [State.refresh, State.store, State.poke]

end Sys2Proof.Machine
end

