-- ==== Sys2Proof/Laws/Ops.lean ====
section
/-! SUPPORT. What each shared operation does, said once: reads after writes, the bits of P after a flag write, push and
pop, and that every operation keeps the state in range (`State.wf`). -/

namespace Sys2Proof.Machine

/-! Parts of `State.wf`. -/

theorem State.wf.fits_a {s : State} (h : s.wf) : s.width.fits s.a = true := h.1
theorem State.wf.fits_x {s : State} (h : s.wf) : s.width.fits s.x = true := h.2.1
theorem State.wf.fits_y {s : State} (h : s.wf) : s.width.fits s.y = true := h.2.2.1
theorem State.wf.fits_p {s : State} (h : s.wf) : s.width.fits s.p = true := h.2.2.2.1
theorem State.wf.fits_sp {s : State} (h : s.wf) : s.width.fits s.sp = true := h.2.2.2.2.1
theorem State.wf.pc_le {s : State} (h : s.wf) : s.pc.toNat ≤ s.width.addrMask := h.2.2.2.2.2.1
theorem State.wf.origin_le {s : State} (h : s.wf) : s.origin.toNat ≤ s.width.addrMask := h.2.2.2.2.2.2.1
theorem State.wf.fits_rand {s : State} (h : s.wf) : s.width.fits s.randCell = true := h.2.2.2.2.2.2.2.1
theorem State.wf.mem_wf {s : State} (h : s.wf) : s.mem.wf s.width := h.2.2.2.2.2.2.2.2
theorem State.wf.rising {s : State} (h : s.wf) : s.mem.Pairwise fun c d => c.1 < d.1 := h.mem_wf.1

theorem State.wf.pc_lt {s : State} (h : s.wf) : s.pc.toNat < 2 ^ s.width.aw :=
  (s.width.le_addrMask_iff _).1 h.pc_le

/-- Every cell of a state in range holds a cell value (00_scope R10). -/
theorem State.wf.fits_read {s : State} (h : s.wf) (a : Nat) : s.width.fits (s.read a) = true := by
  unfold State.read
  split
  · exact h.fits_rand
  · exact Memory.fits_read h.mem_wf a

/-! The state stays in range. -/

theorem State.wf.setA {s : State} (h : s.wf) (v : Word) : (s.setA v).wf :=
  ⟨s.width.fits_cell _, h.2⟩

theorem State.wf.setX {s : State} (h : s.wf) (v : Word) : (s.setX v).wf :=
  ⟨h.1, s.width.fits_cell _, h.2.2⟩

theorem State.wf.setY {s : State} (h : s.wf) (v : Word) : (s.setY v).wf :=
  ⟨h.1, h.2.1, s.width.fits_cell _, h.2.2.2⟩

theorem State.wf.setP {s : State} (h : s.wf) (v : Word) : (s.setP v).wf :=
  ⟨h.1, h.2.1, h.2.2.1, s.width.fits_cell _, h.2.2.2.2⟩

theorem State.wf.setSp {s : State} (h : s.wf) (v : Word) : (s.setSp v).wf :=
  ⟨h.1, h.2.1, h.2.2.1, h.2.2.2.1, s.width.fits_cell _, h.2.2.2.2.2⟩

theorem State.wf.setPc {s : State} (h : s.wf) (n : Nat) : (s.setPc n).wf :=
  ⟨h.1, h.2.1, h.2.2.1, h.2.2.2.1, h.2.2.2.2.1,
    by simpa [Width.le_addrMask_iff] using s.width.addr_lt n, h.2.2.2.2.2.2⟩

theorem State.wf.emit {s : State} (h : s.wf) (e : Event) : (s.emit e).wf := h

theorem State.wf.halt {s : State} (h : s.wf) (r : HaltReason) (pc : Word) : (s.halt r pc).wf := h

theorem State.wf.setFlag {s : State} (h : s.wf) (k : Nat) (b : Bool) : (s.setFlag k b).wf := h.setP _

theorem State.wf.setC {s : State} (h : s.wf) (b : Bool) : (s.setC b).wf := h.setP _
theorem State.wf.setZ {s : State} (h : s.wf) (b : Bool) : (s.setZ b).wf := h.setP _
theorem State.wf.setD {s : State} (h : s.wf) (b : Bool) : (s.setD b).wf := h.setP _
theorem State.wf.setV {s : State} (h : s.wf) (b : Bool) : (s.setV b).wf := h.setP _
theorem State.wf.setN {s : State} (h : s.wf) (b : Bool) : (s.setN b).wf := h.setP _

theorem State.wf.setNZ {s : State} (h : s.wf) (v : Word) : (s.setNZ v).wf := (h.setZ _).setN _

theorem State.wf.advance {s : State} (h : s.wf) (n : Nat) : (s.advance n).wf := h.setPc _

/-- A cell write inside the address space keeps the state in range. -/
theorem State.wf.poke {s : State} (h : s.wf) {a : Nat} (ha : a < 2 ^ s.width.aw) (v : Word) : (s.poke a v).wf := by
  unfold State.poke
  split
  · exact ⟨h.1, h.2.1, h.2.2.1, h.2.2.2.1, h.2.2.2.2.1, h.2.2.2.2.2.1, h.2.2.2.2.2.2.1,
      s.width.fits_cell _, h.mem_wf⟩
  · rename_i hr
    exact ⟨h.1, h.2.1, h.2.2.1, h.2.2.2.1, h.2.2.2.2.1, h.2.2.2.2.2.1, h.2.2.2.2.2.2.1, h.fits_rand,
      Memory.write_wf h.mem_wf ha hr (s.width.fits_cell _)⟩

theorem State.wf.store {s : State} (h : s.wf) {a : Nat} (ha : a < 2 ^ s.width.aw) (v : Word) : (s.store a v).wf :=
  h.poke ha v

theorem randAddr_lt (w : Width) : randAddr < 2 ^ w.aw := by cases w <;> decide

theorem keyAddr_lt (w : Width) : keyAddr < 2 ^ w.aw := by cases w <;> decide

theorem State.wf.refresh {s : State} (h : s.wf) : s.refresh.wf :=
  h.store (randAddr_lt _) _

theorem State.wf.pcZeroCheck {s : State} (h : s.wf) : s.pcZeroCheck.wf := by
  unfold State.pcZeroCheck
  split
  · exact h
  · exact h

theorem State.wf.unknownOpcode {s : State} (h : s.wf) : s.unknownOpcode.wf := h.advance 1

/-! Reads after writes (20_memory R51, R52). -/

theorem State.read_poke {s : State} (h : s.mem.Pairwise fun c d => c.1 < d.1) (a b : Nat) (v : Word) :
    (s.poke a v).read b = if b = a then s.width.cell v.toNat else s.read b := by
  unfold State.poke State.read
  by_cases ha : a = randAddr
  · subst ha
    by_cases hb : b = randAddr <;> simp [hb]
  · by_cases hb : b = randAddr
    · have : b ≠ a := fun e => ha (e ▸ hb)
      simp [ha, hb, Ne.symm ha]
    · simp [ha, hb, Memory.read_write h]

theorem State.read_store {s : State} (h : s.mem.Pairwise fun c d => c.1 < d.1) (a b : Nat) (v : Word) :
    (s.store a v).read b = if b = a then s.width.cell v.toNat else s.read b :=
  State.read_poke h a b v

/-! The refresh of cell 0xFE (20_memory R61). -/

theorem Byte.toNat_extend (b : Byte) : (b.setWidth 32 : Word).toNat = b.toNat := by
  have := b.isLt
  rw [BitVec.toNat_setWidth, Nat.mod_eq_of_lt (by omega)]

/-- A byte from outside is a cell value in every profile (20_memory R61). -/
theorem Width.cell_byte (w : Width) (b : Byte) : w.cell (b.setWidth 32 : Word).toNat = b.setWidth 32 := by
  apply Width.cell_toNat_of_fits
  rw [Width.fits_iff, Byte.toNat_extend]
  exact Nat.lt_of_lt_of_le b.isLt (Nat.pow_le_pow_right (by decide) w.eight_le_dw)

/-- The refresh writes the draw to cell 0xFE and leaves every other cell. -/
theorem State.read_refresh {s : State} (h : s.wf) (a : Nat) :
    s.refresh.read a = if a = randAddr then s.draw.setWidth 32 else s.read a := by
  have h1 := State.read_store h.rising randAddr a (s.draw.setWidth 32)
  rw [Width.cell_byte] at h1
  exact h1

/-- The refresh emits the one event of its store. -/
theorem State.refresh_events (s : State) :
    s.refresh.trace = .onMemoryWrite randAddr (s.draw.setWidth 32) :: s.trace := by
  have h1 := State.store_trace s randAddr (s.draw.setWidth 32)
  rw [Width.cell_byte] at h1
  exact h1

/-! The bits of P (10_state R27, R28, R30). -/

/-- A flag write changes one bit of P and no other. -/
theorem State.getLsbD_setFlag {s : State} (h : s.wf) {k : Nat} (hk : k < s.width.dw) (b : Bool) (j : Nat) :
    (s.setFlag k b).p.getLsbD j = if j = k then b else s.p.getLsbD j := by
  have hk32 : k < 32 := Nat.lt_of_lt_of_le hk s.width.dw_le
  simp only [State.setFlag, State.setP_p, Width.getLsbD_cell, Word.getLsbD_setBit _ _ _ _ hk32]
  by_cases hj : j = k
  · simp [hj, hk]
  · simp only [if_neg hj]
    by_cases hd : j < s.width.dw
    · simp [hd]
    · simp [hd, Width.getLsbD_of_fits h.fits_p (Nat.le_of_not_lt hd)]

theorem State.getLsbD_setC {s : State} (h : s.wf) (b : Bool) (j : Nat) :
    (s.setC b).p.getLsbD j = if j = 0 then b else s.p.getLsbD j :=
  State.getLsbD_setFlag h (by have := s.width.eight_le_dw; omega) b j

theorem State.getLsbD_setZ {s : State} (h : s.wf) (b : Bool) (j : Nat) :
    (s.setZ b).p.getLsbD j = if j = 1 then b else s.p.getLsbD j :=
  State.getLsbD_setFlag h (by have := s.width.eight_le_dw; omega) b j

theorem State.getLsbD_setD {s : State} (h : s.wf) (b : Bool) (j : Nat) :
    (s.setD b).p.getLsbD j = if j = 3 then b else s.p.getLsbD j :=
  State.getLsbD_setFlag h (by have := s.width.eight_le_dw; omega) b j

theorem State.getLsbD_setV {s : State} (h : s.wf) (b : Bool) (j : Nat) :
    (s.setV b).p.getLsbD j = if j = s.width.dw - 2 then b else s.p.getLsbD j :=
  State.getLsbD_setFlag h (by have := s.width.eight_le_dw; omega) b j

theorem State.getLsbD_setN {s : State} (h : s.wf) (b : Bool) (j : Nat) :
    (s.setN b).p.getLsbD j = if j = s.width.dw - 1 then b else s.p.getLsbD j :=
  State.getLsbD_setFlag h (by have := s.width.eight_le_dw; omega) b j

/-- `SetNZ(v)` sets Z iff `v = 0` and N to bit `dw-1` of `v`, and no other bit (10_state R30). -/
theorem State.getLsbD_setNZ {s : State} (h : s.wf) (v : Word) (j : Nat) :
    (s.setNZ v).p.getLsbD j =
      if j = s.width.dw - 1 then v.getLsbD (s.width.dw - 1) else if j = 1 then decide (v = 0) else s.p.getLsbD j := by
  have h1 := State.getLsbD_setN (h.setZ (v == 0)) (s.width.msb v) j
  simp only [State.setZ_width] at h1
  rw [State.setNZ, h1, State.getLsbD_setZ h]
  rfl

theorem State.setNZ_nz {s : State} (h : s.wf) (v : Word) : NZFrom v s (s.setNZ v) := by
  have := s.width.eight_le_dw
  constructor
  · have h1 : (1 : Nat) ≠ s.width.dw - 1 := by omega
    simp only [State.flagZ, State.getLsbD_setNZ h, if_neg h1, if_true]
  · simp only [State.flagN, State.setNZ_width, State.getLsbD_setNZ h, if_true]

/-! The stack (10_state R32 to R34). -/

theorem State.wf.stackAddr_lt {s : State} (h : s.wf) : s.stackAddr < 2 ^ s.width.aw :=
  s.width.stackBase_add_lt h.fits_sp

theorem State.wf.push {s : State} (h : s.wf) (v : Word) : (s.push v).wf := by
  have h1 : (s.store s.stackAddr v).wf := h.store h.stackAddr_lt v
  unfold State.push
  split
  · exact (h1.setSp _).emit _
  · exact h1.setSp _

theorem State.wf.popAdvance {s : State} (h : s.wf) : s.popAdvance.wf := by
  unfold State.popAdvance
  split
  · exact (h.setSp _).emit _
  · exact h.setSp _

theorem State.wf.pop {s : State} (h : s.wf) : s.pop.2.wf := h.popAdvance

theorem State.wf.fits_pop {s : State} (h : s.wf) : s.width.fits s.pop.1 = true := by
  have hw : s.popAdvance.width = s.width := by unfold State.popAdvance; split <;> rfl
  have := h.popAdvance.fits_read s.popAdvance.stackAddr
  rwa [hw] at this

/-- SP after a push: `(SP - 1) mod 2^dw` (10_state R33). -/
theorem State.push_sp {s : State} (h : s.wf) (v : Word) :
    (s.push v).sp = s.width.cellInt ((s.sp.toNat : Int) - 1) := by
  have hs := (s.width.fits_iff _).1 h.fits_sp
  have h1 := s.width.toNat_cellInt ((s.sp.toNat : Int) - 1)
  have hd : s.width.dataMask + 1 = 2 ^ s.width.dw := by
    have := s.width.pow_dw_pos; rw [Width.dataMask]; omega
  apply BitVec.eq_of_toNat_eq
  by_cases h0 : s.sp = 0
  · have h3 : s.sp.toNat = 0 := by simp [h0]
    have h4 : (((0 : Nat) : Int) - 1) % ((s.width.dataMask + 1 : Nat) : Int) = s.width.dataMask := by
      rw [← Int.add_emod_right, Int.emod_eq_of_lt] <;> push_cast <;> omega
    rw [h3, ← hd, h4] at h1
    have h6 : (s.push v).sp = s.width.cell s.width.dataMask := by
      unfold State.push
      rw [if_pos h0, State.emit_sp, State.setSp_sp, State.store_width, Width.cell_cell]
    rw [h6, Width.toNat_cell, h3, ← hd, Nat.mod_eq_of_lt (Nat.lt_succ_self _)]
    omega
  · have h3 : s.sp.toNat ≠ 0 := fun e => h0 (BitVec.eq_of_toNat_eq (by simpa using e))
    have h5 : (s.sp - 1).toNat = s.sp.toNat - 1 := by
      rw [BitVec.toNat_sub_of_le]
      · rfl
      · rw [BitVec.le_def]; simp; omega
    rw [Int.emod_eq_of_lt (by omega) (by omega)] at h1
    have h6 : (s.push v).sp = s.width.cell (s.sp - 1).toNat := by
      unfold State.push
      rw [if_neg h0, State.setSp_sp, State.store_width]
    rw [h6, Width.toNat_cell, h5, Nat.mod_eq_of_lt (by omega)]
    omega

/-- SP after a pop: `(SP + 1) mod 2^dw` (10_state R34). -/
theorem State.popAdvance_sp {s : State} (h : s.wf) : s.popAdvance.sp = s.width.cell (s.sp.toNat + 1) := by
  have hs := (s.width.fits_iff _).1 h.fits_sp
  have hle := s.width.pow_dw_le
  have hd : s.width.dataMask = 2 ^ s.width.dw - 1 := rfl
  apply BitVec.eq_of_toNat_eq
  unfold State.popAdvance
  by_cases h0 : s.sp.toNat = s.width.dataMask
  · have : s.sp.toNat + 1 = 2 ^ s.width.dw := by omega
    rw [if_pos h0, State.emit_sp, State.setSp_sp, Width.toNat_cell, Width.toNat_cell, this]
    simp
  · have h5 : (s.sp + 1).toNat = s.sp.toNat + 1 := by
      rw [BitVec.toNat_add]
      exact Nat.mod_eq_of_lt (by simpa using (by omega : s.sp.toNat + 1 < 2 ^ 32))
    rw [if_neg h0, State.setSp_sp, Width.toNat_cell, Width.toNat_cell, h5]

/-! `push` and `pop`: the fields they leave alone. -/

@[simp] theorem State.push_width (s : State) (v : Word) : (s.push v).width = s.width := by
  unfold State.push; split <;> simp
@[simp] theorem State.push_origin (s : State) (v : Word) : (s.push v).origin = s.origin := by
  unfold State.push; split <;> simp
@[simp] theorem State.push_a (s : State) (v : Word) : (s.push v).a = s.a := by
  unfold State.push; split <;> simp
@[simp] theorem State.push_x (s : State) (v : Word) : (s.push v).x = s.x := by
  unfold State.push; split <;> simp
@[simp] theorem State.push_y (s : State) (v : Word) : (s.push v).y = s.y := by
  unfold State.push; split <;> simp
@[simp] theorem State.push_p (s : State) (v : Word) : (s.push v).p = s.p := by
  unfold State.push; split <;> simp
@[simp] theorem State.push_pc (s : State) (v : Word) : (s.push v).pc = s.pc := by
  unfold State.push; split <;> simp
@[simp] theorem State.push_status (s : State) (v : Word) : (s.push v).status = s.status := by
  unfold State.push; split <;> simp
@[simp] theorem State.push_labels (s : State) (v : Word) : (s.push v).labels = s.labels := by
  unfold State.push; split <;> simp
@[simp] theorem State.push_cursor (s : State) (v : Word) : (s.push v).cursor = s.cursor := by
  unfold State.push; split <;> simp
@[simp] theorem State.push_codeLength (s : State) (v : Word) : (s.push v).codeLength = s.codeLength := by
  unfold State.push; split <;> simp
@[simp] theorem State.push_running (s : State) (v : Word) : (s.push v).running = s.running := by
  unfold State.push; split <;> simp
@[simp] theorem State.push_draws (s : State) (v : Word) : (s.push v).draws = s.draws := by
  unfold State.push; split <;> simp
@[simp] theorem State.push_drawCount (s : State) (v : Word) : (s.push v).drawCount = s.drawCount := by
  unfold State.push; split <;> simp

/-- The events of a push: the write, then the warning when SP was 0 (10_state R33). -/
theorem State.push_trace (s : State) (v : Word) :
    (s.push v).trace =
      (if s.sp = 0 then [.warning .push] else []) ++ .onMemoryWrite s.stackAddr (s.width.cell v.toNat) :: s.trace := by
  unfold State.push; split <;> simp

/-- A push writes the cell SP named and no other (10_state R33). -/
theorem State.read_push {s : State} (h : s.wf) (v : Word) (b : Nat) :
    (s.push v).read b = if b = s.stackAddr then s.width.cell v.toNat else s.read b := by
  unfold State.push; split <;> simp [State.read_store h.rising]

@[simp] theorem State.popAdvance_width (s : State) : s.popAdvance.width = s.width := by
  unfold State.popAdvance; split <;> simp
@[simp] theorem State.popAdvance_origin (s : State) : s.popAdvance.origin = s.origin := by
  unfold State.popAdvance; split <;> simp
@[simp] theorem State.popAdvance_a (s : State) : s.popAdvance.a = s.a := by
  unfold State.popAdvance; split <;> simp
@[simp] theorem State.popAdvance_x (s : State) : s.popAdvance.x = s.x := by
  unfold State.popAdvance; split <;> simp
@[simp] theorem State.popAdvance_y (s : State) : s.popAdvance.y = s.y := by
  unfold State.popAdvance; split <;> simp
@[simp] theorem State.popAdvance_p (s : State) : s.popAdvance.p = s.p := by
  unfold State.popAdvance; split <;> simp
@[simp] theorem State.popAdvance_pc (s : State) : s.popAdvance.pc = s.pc := by
  unfold State.popAdvance; split <;> simp
@[simp] theorem State.popAdvance_status (s : State) : s.popAdvance.status = s.status := by
  unfold State.popAdvance; split <;> simp
@[simp] theorem State.popAdvance_labels (s : State) : s.popAdvance.labels = s.labels := by
  unfold State.popAdvance; split <;> simp
@[simp] theorem State.popAdvance_cursor (s : State) : s.popAdvance.cursor = s.cursor := by
  unfold State.popAdvance; split <;> simp
@[simp] theorem State.popAdvance_codeLength (s : State) : s.popAdvance.codeLength = s.codeLength := by
  unfold State.popAdvance; split <;> simp
@[simp] theorem State.popAdvance_running (s : State) : s.popAdvance.running = s.running := by
  unfold State.popAdvance; split <;> simp
@[simp] theorem State.popAdvance_draws (s : State) : s.popAdvance.draws = s.draws := by
  unfold State.popAdvance; split <;> simp
@[simp] theorem State.popAdvance_drawCount (s : State) : s.popAdvance.drawCount = s.drawCount := by
  unfold State.popAdvance; split <;> simp
@[simp] theorem State.popAdvance_mem (s : State) : s.popAdvance.mem = s.mem := by
  unfold State.popAdvance; split <;> simp
@[simp] theorem State.popAdvance_randCell (s : State) : s.popAdvance.randCell = s.randCell := by
  unfold State.popAdvance; split <;> simp

@[simp] theorem State.popAdvance_read (s : State) (a : Nat) : s.popAdvance.read a = s.read a := by
  unfold State.popAdvance; split <;> simp

/-- The events of a pop: the warning when SP was DM (10_state R34). -/
theorem State.popAdvance_trace (s : State) :
    s.popAdvance.trace = (if s.sp.toNat = s.width.dataMask then [.warning .pop] else []) ++ s.trace := by
  unfold State.popAdvance; split <;> simp

/-- The popped cell: the one at the incremented SP (10_state R34). -/
theorem State.pop_fst {s : State} (h : s.wf) :
    s.pop.1 = s.read (s.width.stackBase + (s.width.cell (s.sp.toNat + 1)).toNat) := by
  rw [State.pop, State.popAdvance_read, State.stackAddr, State.popAdvance_width, State.popAdvance_sp h]

@[simp] theorem State.pop_snd (s : State) : s.pop.2 = s.popAdvance := rfl

/-! Reset and the placing of a program keep the state in range, memory's canonical form among it. -/

theorem State.wf.doReset {s : State} (h : s.wf) : s.doReset.wf := by
  refine ⟨?_, ?_, ?_, ?_, ?_, ?_, h.origin_le, ?_, Memory.nil_wf _⟩
  case refine_6 => exact (h.setPc s.origin.toNat).pc_le
  all_goals simp only [State.doReset]; cases s.width <;> decide

theorem State.wf.placeAtPc {s : State} (h : s.wf) (cells : List Word) : (s.placeAtPc cells).wf := by
  suffices key : ∀ (cs : List (Word × Nat)) (t : State), t.wf → t.width = s.width →
      (cs.foldl (fun t c => t.poke (s.width.addr (s.pc.toNat + c.2)) c.1) t).wf from key _ s h rfl
  intro cs
  induction cs with
  | nil => exact fun t ht _ => ht
  | cons c cs ih =>
    intro t ht hw
    exact ih _ (ht.poke (by rw [hw]; exact s.width.addr_lt _) _) (by simp [hw])

end Sys2Proof.Machine
end

