-- ==== Sys2Proof/Laws/Changes.lean ====
section
/-! SUPPORT. How `ChangesOnly` grows along a chain of updates: one lemma per shared operation, so that a frame is built
by citing them in the order the meaning applies the operations. -/

namespace Sys2Proof.Machine

variable {regs : List Reg} {bits cells : List Nat} {events : List Event} {s t : State}

theorem ChangesOnly.refl (s : State) : ChangesOnly regs bits cells [] s s :=
  ⟨fun _ _ _ => rfl, fun _ _ => rfl, fun _ _ => rfl, rfl, rfl, rfl, rfl, rfl, rfl, rfl, rfl, rfl, rfl⟩

/-- The width is part of what never changes. -/
theorem ChangesOnly.width_eq (h : ChangesOnly regs bits cells events s t) : t.width = s.width := h.2.2.2.2.1

theorem ChangesOnly.setA (h : ChangesOnly regs bits cells events s t) (v : Word) (m : Reg.a ∈ regs) :
    ChangesOnly regs bits cells events s (t.setA v) := by
  refine ⟨fun r hr hp => ?_, h.2.1, h.2.2.1, h.2.2.2.1, h.2.2.2.2⟩
  have := h.1 r hr hp
  cases r <;> first | exact this | exact absurd m hr

theorem ChangesOnly.setX (h : ChangesOnly regs bits cells events s t) (v : Word) (m : Reg.x ∈ regs) :
    ChangesOnly regs bits cells events s (t.setX v) := by
  refine ⟨fun r hr hp => ?_, h.2.1, h.2.2.1, h.2.2.2.1, h.2.2.2.2⟩
  have := h.1 r hr hp
  cases r <;> first | exact this | exact absurd m hr

theorem ChangesOnly.setY (h : ChangesOnly regs bits cells events s t) (v : Word) (m : Reg.y ∈ regs) :
    ChangesOnly regs bits cells events s (t.setY v) := by
  refine ⟨fun r hr hp => ?_, h.2.1, h.2.2.1, h.2.2.2.1, h.2.2.2.2⟩
  have := h.1 r hr hp
  cases r <;> first | exact this | exact absurd m hr

theorem ChangesOnly.setSp (h : ChangesOnly regs bits cells events s t) (v : Word) (m : Reg.sp ∈ regs) :
    ChangesOnly regs bits cells events s (t.setSp v) := by
  refine ⟨fun r hr hp => ?_, h.2.1, h.2.2.1, h.2.2.2.1, h.2.2.2.2⟩
  have := h.1 r hr hp
  cases r <;> first | exact this | exact absurd m hr

theorem ChangesOnly.setPc (h : ChangesOnly regs bits cells events s t) (n : Nat) (m : Reg.pc ∈ regs) :
    ChangesOnly regs bits cells events s (t.setPc n) := by
  refine ⟨fun r hr hp => ?_, h.2.1, h.2.2.1, h.2.2.2.1, h.2.2.2.2⟩
  have := h.1 r hr hp
  cases r <;> first | exact this | exact absurd m hr

/-- A write of all of P, for a frame that names every bit of it. -/
theorem ChangesOnly.setP (h : ChangesOnly regs bits cells events s t) (v : Word)
    (m : ∀ k, k ∉ bits → 32 ≤ k) : ChangesOnly regs bits cells events s (t.setP v) := by
  refine ⟨fun r hr hp => ?_, fun k hk => ?_, h.2.2.1, h.2.2.2.1, h.2.2.2.2⟩
  · have := h.1 r hr hp
    cases r <;> first | exact this | exact absurd rfl hp
  · rw [BitVec.getLsbD_of_ge _ _ (m k hk), BitVec.getLsbD_of_ge _ _ (m k hk)]

theorem ChangesOnly.setFlag (h : ChangesOnly regs bits cells events s t) (hw : t.wf) {k : Nat}
    (hk : k < t.width.dw) (b : Bool) (m : k ∈ bits) : ChangesOnly regs bits cells events s (t.setFlag k b) := by
  refine ⟨fun r hr hp => ?_, fun j hj => ?_, h.2.2.1, h.2.2.2.1, h.2.2.2.2⟩
  · have := h.1 r hr hp
    cases r <;> first | exact this | exact absurd rfl hp
  · rw [State.getLsbD_setFlag hw hk, if_neg (fun e : j = k => hj (e ▸ m)), h.2.1 j hj]

theorem ChangesOnly.setC (h : ChangesOnly regs bits cells events s t) (hw : t.wf) (b : Bool) (m : 0 ∈ bits) :
    ChangesOnly regs bits cells events s (t.setC b) :=
  h.setFlag hw (by have := t.width.eight_le_dw; omega) b m

theorem ChangesOnly.setZ (h : ChangesOnly regs bits cells events s t) (hw : t.wf) (b : Bool) (m : 1 ∈ bits) :
    ChangesOnly regs bits cells events s (t.setZ b) :=
  h.setFlag hw (by have := t.width.eight_le_dw; omega) b m

theorem ChangesOnly.setD (h : ChangesOnly regs bits cells events s t) (hw : t.wf) (b : Bool) (m : 3 ∈ bits) :
    ChangesOnly regs bits cells events s (t.setD b) :=
  h.setFlag hw (by have := t.width.eight_le_dw; omega) b m

theorem ChangesOnly.setV (h : ChangesOnly regs bits cells events s t) (hw : t.wf) (b : Bool)
    (m : s.width.dw - 2 ∈ bits) : ChangesOnly regs bits cells events s (t.setV b) :=
  h.setFlag hw (by have := t.width.eight_le_dw; omega) b (h.width_eq ▸ m)

theorem ChangesOnly.setN (h : ChangesOnly regs bits cells events s t) (hw : t.wf) (b : Bool)
    (m : s.width.dw - 1 ∈ bits) : ChangesOnly regs bits cells events s (t.setN b) :=
  h.setFlag hw (by have := t.width.eight_le_dw; omega) b (h.width_eq ▸ m)

theorem ChangesOnly.setNZ (h : ChangesOnly regs bits cells events s t) (hw : t.wf) (v : Word) (m1 : 1 ∈ bits)
    (m2 : s.width.dw - 1 ∈ bits) : ChangesOnly regs bits cells events s (t.setNZ v) :=
  (h.setZ hw _ m1).setN (hw.setZ _) _ m2

theorem ChangesOnly.emit (h : ChangesOnly regs bits cells events s t) (e : Event) :
    ChangesOnly regs bits cells (e :: events) s (t.emit e) :=
  ⟨h.1, h.2.1, h.2.2.1, by rw [State.emit_trace, h.2.2.2.1, List.cons_append], h.2.2.2.2⟩

theorem ChangesOnly.store (h : ChangesOnly regs bits cells events s t) (hw : t.wf) {a : Nat} (v : Word)
    (m : a ∈ cells) :
    ChangesOnly regs bits cells (.onMemoryWrite a (s.width.cell v.toNat) :: events) s (t.store a v) := by
  refine ⟨fun r hr hp => ?_, fun k hk => ?_, fun b hb => ?_, ?_, ?_⟩
  · rw [← h.1 r hr hp]
    cases r <;> simp [State.reg]
  · rw [State.store_p, h.2.1 k hk]
  · rw [State.read_store hw.rising, if_neg (fun e : b = a => hb (e ▸ m)), h.2.2.1 b hb]
  · rw [State.store_trace, h.2.2.2.1, h.width_eq, List.cons_append]
  · simpa [SameSession] using h.2.2.2.2

theorem ChangesOnly.push (h : ChangesOnly regs bits cells events s t) (hw : t.wf) (v : Word) (mr : Reg.sp ∈ regs)
    (mc : t.stackAddr ∈ cells) :
    ChangesOnly regs bits cells
      ((if t.sp = 0 then [.warning .push] else []) ++ .onMemoryWrite t.stackAddr (s.width.cell v.toNat) :: events)
      s (t.push v) := by
  have h1 := h.store hw v mc
  unfold State.push
  split
  · exact (h1.setSp _ mr).emit _
  · exact h1.setSp _ mr

theorem ChangesOnly.popAdvance (h : ChangesOnly regs bits cells events s t) (mr : Reg.sp ∈ regs) :
    ChangesOnly regs bits cells ((if t.sp.toNat = t.width.dataMask then [.warning .pop] else []) ++ events)
      s t.popAdvance := by
  unfold State.popAdvance
  split
  · exact (h.setSp _ mr).emit _
  · exact h.setSp _ mr

end Sys2Proof.Machine
end

