-- ==== Sys2Proof/Laws/Exec.lean ====
section
/-! SUPPORT. What `exec` does, by mnemonic and operand: one equation that later proofs split by the 56 mnemonics
instead of unfolding 151 arms, and with it that `exec` always answers a next state. -/

namespace Sys2Proof.Machine

/-- The value an operand stands for, 0 for a form that has none. -/
def State.value (s : State) (o : Operand) : Word := (s.operandValue o).getD 0

/-- The effective address of a memory operand, 0 for another form. -/
def State.address (s : State) : Operand → Nat
  | .mem o => s.ea o
  | .single | .imm _ | .ind _ _ | .rel _ => 0

/-- A shift or rotate of A in the single form, of the cell at the effective address in a memory form. -/
def shiftEffect (f : Width → Word → Bool → Word × Bool) (o : Operand) (s : State) : State :=
  match o with
  | .mem m => shiftMem f s (s.ea m)
  | .single | .imm _ | .ind _ _ | .rel _ => shiftA f s

/-- The target of JMP and JSR. -/
def State.jumpTarget (s : State) : Operand → Nat
  | .mem (.abs lo hi) => s.width.word lo hi
  | .ind lo hi => s.indirectTarget lo hi
  | _ => 0

/-- The offset cell of a branch. -/
def branchOffset : Operand → Word
  | .rel d => d
  | _ => 0

/-- The effect of a mnemonic with an operand. -/
def effect (m : Mnemonic) (o : Operand) (s : State) : State :=
  match m with
  | .lda => lda s (s.value o)
  | .ldx => ldx s (s.value o)
  | .ldy => ldy s (s.value o)
  | .sta => sta s (s.address o)
  | .stx => stx s (s.address o)
  | .sty => sty s (s.address o)
  | .tax => (s.setX s.a).setNZ s.a
  | .tay => (s.setY s.a).setNZ s.a
  | .txa => (s.setA s.x).setNZ s.x
  | .tya => (s.setA s.y).setNZ s.y
  | .tsx => (s.setX s.sp).setNZ s.sp
  | .txs => s.setSp s.x
  | .adc => adc s (s.value o)
  | .sbc => sbc s (s.value o)
  | .and => land s (s.value o)
  | .ora => lora s (s.value o)
  | .eor => leor s (s.value o)
  | .cmp => s.compare s.a (s.value o)
  | .cpx => s.compare s.x (s.value o)
  | .cpy => s.compare s.y (s.value o)
  | .bit => bitTest s (s.value o)
  | .inc => incMem s (s.address o)
  | .dec => decMem s (s.address o)
  | .inx => (s.setX (s.incremented s.x)).setNZ (s.incremented s.x)
  | .iny => (s.setY (s.incremented s.y)).setNZ (s.incremented s.y)
  | .dex => (s.setX (s.decremented s.x)).setNZ (s.decremented s.x)
  | .dey => (s.setY (s.decremented s.y)).setNZ (s.decremented s.y)
  | .asl => shiftEffect aslResult o s
  | .lsr => shiftEffect lsrResult o s
  | .rol => shiftEffect rolResult o s
  | .ror => shiftEffect rorResult o s
  | .jmp => s.setPc (s.jumpTarget o)
  | .jsr => jsr s (s.jumpTarget o)
  | .rts => rts s
  | .rti => rti s
  | .bcc => branch s (!s.flagC) (branchOffset o)
  | .bcs => branch s s.flagC (branchOffset o)
  | .beq => branch s s.flagZ (branchOffset o)
  | .bne => branch s (!s.flagZ) (branchOffset o)
  | .bmi => branch s s.flagN (branchOffset o)
  | .bpl => branch s (!s.flagN) (branchOffset o)
  | .bvc => branch s (!s.flagV) (branchOffset o)
  | .bvs => branch s s.flagV (branchOffset o)
  | .brk => s.halt .brk s.opcodeAddr
  | .nop => s
  | .pha => s.push s.a
  | .php => s.push (withB s.p)
  | .pla => pla s
  | .plp => plp s
  | .clc => s.setC false
  | .sec => s.setC true
  | .cld => s.setD false
  | .sed => s.setD true
  | .clv => s.setV false
  | .cli => s.halt .unimplementedFeature s.opcodeAddr
  | .sei => s.halt .unimplementedFeature s.opcodeAddr

/-- `exec` is the effect of the instruction's mnemonic with its operand. -/
theorem exec_eq_effect (i : Instr) (s : State) : exec i s = .next (effect i.mnemonic i.operand s) := by
  cases i <;> rfl

end Sys2Proof.Machine
end

