-- ==== Sys2Proof/Laws/Operands.lean ====
section
/-! SUPPORT. Operands of well-formed instructions: their values are cell values and their addresses lie in the address
space (20_memory R51). -/

namespace Sys2Proof.Machine

/-- Only zero page takes its address from the operand cell unreduced. -/
theorem State.ea_lt (s : State) (o : MemOperand) (h : ∀ z, o = .zp z → s.width.fits z = true) :
    s.ea o < 2 ^ s.width.aw := by
  cases o
  case zp z => exact Width.lt_pow_aw_of_fits (h z rfl)
  case zpx => exact Width.lt_pow_aw_of_fits (s.width.fits_cell _)
  case zpy => exact Width.lt_pow_aw_of_fits (s.width.fits_cell _)
  case indx => exact s.width.word_lt _ _
  all_goals exact s.width.addr_lt _

theorem Instr.wf_ea_lt {s : State} {i : Instr} {o : MemOperand} (hi : i.wf s.width = true)
    (ho : i.operand = .mem o) : s.ea o < 2 ^ s.width.aw := by
  apply s.ea_lt
  rintro z rfl
  cases i <;> simp_all [Instr.operand, Instr.wf, Instr.operandCells]

/-- The operand value of a well-formed instruction is a cell value. -/
theorem State.wf.fits_operandValue {s : State} (h : s.wf) {i : Instr} {m : Word} (hi : i.wf s.width = true)
    (hm : s.operandValue i.operand = some m) : s.width.fits m = true := by
  revert hm
  generalize ho : i.operand = o
  cases o <;> simp only [State.operandValue, State.load, Option.some.injEq, reduceCtorEq, false_imp_iff]
  · rintro rfl
    cases i <;> simp_all [Instr.operand, Instr.wf, Instr.operandCells]
  · rintro rfl
    exact h.fits_read _

end Sys2Proof.Machine
end

