-- ==== Sys2Proof/Laws/PerInstr.lean ====
section
/-! SUPPORT. Facts about the encoding of every instruction, one lemma per constructor. -/

namespace Sys2Proof.Laws.EncodingCells

open Sys2Proof

/-- The instruction is the one its mnemonic and operand name; its opcode cell is the opcode of that mnemonic in that
mode in the table; its operand cells are read back as its operand; and it has as many cells as its mode gives it
(30_encoding R81, R82, R100). -/
def Statement (i : Instr) : Prop :=
  Instr.ofParts i.mnemonic i.operand = some i ∧
  lookupOpcode i.opcode.toNat = some ⟨i.opcode.toNat, i.mnemonic, i.operand.mode⟩ ∧
  takeOperand i.operand.mode i.operandCells = some (i.operand, []) ∧
  i.encode.length = i.length

/-- Every row of the table is found by its mnemonic and mode, and by its opcode cell. -/
theorem rows_found : ∀ r ∈ opcodeTable,
    opcodeOf r.mnemonic r.mode = some r.opcode ∧ lookupOpcode (BitVec.ofNat 32 r.opcode : Word).toNat = some r ∧
      (BitVec.ofNat 32 r.opcode : Word).toNat = r.opcode := by decide +kernel

/-- The opcode cell of an instruction whose row of the table is `r`. -/
theorem lookup_opcode {i : Instr} (r : OpcodeRow) (hr : r ∈ opcodeTable) (hm : r.mnemonic = i.mnemonic)
    (ho : r.mode = i.operand.mode) :
    lookupOpcode i.opcode.toNat = some ⟨i.opcode.toNat, i.mnemonic, i.operand.mode⟩ := by
  obtain ⟨h1, h2, h3⟩ := rows_found r hr
  have h4 : i.opcode = BitVec.ofNat 32 r.opcode := by rw [Instr.opcode, ← hm, ← ho, h1]; rfl
  rw [h4, h2, h3, ← hm, ← ho]

theorem adcImm (v : Word) : Statement (.adcImm v) :=
  ⟨rfl, lookup_opcode ⟨0x69, .adc, .imm⟩ (by decide) rfl rfl, rfl, rfl⟩
theorem adcZp (z : Word) : Statement (.adcZp z) :=
  ⟨rfl, lookup_opcode ⟨0x65, .adc, .zp⟩ (by decide) rfl rfl, rfl, rfl⟩
theorem adcZpx (z : Word) : Statement (.adcZpx z) :=
  ⟨rfl, lookup_opcode ⟨0x75, .adc, .zpx⟩ (by decide) rfl rfl, rfl, rfl⟩
theorem adcAbs (lo hi : Word) : Statement (.adcAbs lo hi) :=
  ⟨rfl, lookup_opcode ⟨0x6D, .adc, .abs⟩ (by decide) rfl rfl, rfl, rfl⟩
theorem adcAbsx (lo hi : Word) : Statement (.adcAbsx lo hi) :=
  ⟨rfl, lookup_opcode ⟨0x7D, .adc, .absx⟩ (by decide) rfl rfl, rfl, rfl⟩
theorem adcAbsy (lo hi : Word) : Statement (.adcAbsy lo hi) :=
  ⟨rfl, lookup_opcode ⟨0x79, .adc, .absy⟩ (by decide) rfl rfl, rfl, rfl⟩
theorem adcIndx (z : Word) : Statement (.adcIndx z) :=
  ⟨rfl, lookup_opcode ⟨0x61, .adc, .indx⟩ (by decide) rfl rfl, rfl, rfl⟩
theorem adcIndy (z : Word) : Statement (.adcIndy z) :=
  ⟨rfl, lookup_opcode ⟨0x71, .adc, .indy⟩ (by decide) rfl rfl, rfl, rfl⟩
theorem andImm (v : Word) : Statement (.andImm v) :=
  ⟨rfl, lookup_opcode ⟨0x29, .and, .imm⟩ (by decide) rfl rfl, rfl, rfl⟩
theorem andZp (z : Word) : Statement (.andZp z) :=
  ⟨rfl, lookup_opcode ⟨0x25, .and, .zp⟩ (by decide) rfl rfl, rfl, rfl⟩
theorem andZpx (z : Word) : Statement (.andZpx z) :=
  ⟨rfl, lookup_opcode ⟨0x35, .and, .zpx⟩ (by decide) rfl rfl, rfl, rfl⟩
theorem andAbs (lo hi : Word) : Statement (.andAbs lo hi) :=
  ⟨rfl, lookup_opcode ⟨0x2D, .and, .abs⟩ (by decide) rfl rfl, rfl, rfl⟩
theorem andAbsx (lo hi : Word) : Statement (.andAbsx lo hi) :=
  ⟨rfl, lookup_opcode ⟨0x3D, .and, .absx⟩ (by decide) rfl rfl, rfl, rfl⟩
theorem andAbsy (lo hi : Word) : Statement (.andAbsy lo hi) :=
  ⟨rfl, lookup_opcode ⟨0x39, .and, .absy⟩ (by decide) rfl rfl, rfl, rfl⟩
theorem andIndx (z : Word) : Statement (.andIndx z) :=
  ⟨rfl, lookup_opcode ⟨0x21, .and, .indx⟩ (by decide) rfl rfl, rfl, rfl⟩
theorem andIndy (z : Word) : Statement (.andIndy z) :=
  ⟨rfl, lookup_opcode ⟨0x31, .and, .indy⟩ (by decide) rfl rfl, rfl, rfl⟩
theorem aslAcc : Statement .aslAcc :=
  ⟨rfl, lookup_opcode ⟨0x0A, .asl, .single⟩ (by decide) rfl rfl, rfl, rfl⟩
theorem aslZp (z : Word) : Statement (.aslZp z) :=
  ⟨rfl, lookup_opcode ⟨0x06, .asl, .zp⟩ (by decide) rfl rfl, rfl, rfl⟩
theorem aslZpx (z : Word) : Statement (.aslZpx z) :=
  ⟨rfl, lookup_opcode ⟨0x16, .asl, .zpx⟩ (by decide) rfl rfl, rfl, rfl⟩
theorem aslAbs (lo hi : Word) : Statement (.aslAbs lo hi) :=
  ⟨rfl, lookup_opcode ⟨0x0E, .asl, .abs⟩ (by decide) rfl rfl, rfl, rfl⟩
theorem aslAbsx (lo hi : Word) : Statement (.aslAbsx lo hi) :=
  ⟨rfl, lookup_opcode ⟨0x1E, .asl, .absx⟩ (by decide) rfl rfl, rfl, rfl⟩
theorem bcc (d : Word) : Statement (.bcc d) :=
  ⟨rfl, lookup_opcode ⟨0x90, .bcc, .rel⟩ (by decide) rfl rfl, rfl, rfl⟩
theorem bcs (d : Word) : Statement (.bcs d) :=
  ⟨rfl, lookup_opcode ⟨0xB0, .bcs, .rel⟩ (by decide) rfl rfl, rfl, rfl⟩
theorem beq (d : Word) : Statement (.beq d) :=
  ⟨rfl, lookup_opcode ⟨0xF0, .beq, .rel⟩ (by decide) rfl rfl, rfl, rfl⟩
theorem bitZp (z : Word) : Statement (.bitZp z) :=
  ⟨rfl, lookup_opcode ⟨0x24, .bit, .zp⟩ (by decide) rfl rfl, rfl, rfl⟩
theorem bitAbs (lo hi : Word) : Statement (.bitAbs lo hi) :=
  ⟨rfl, lookup_opcode ⟨0x2C, .bit, .abs⟩ (by decide) rfl rfl, rfl, rfl⟩
theorem bmi (d : Word) : Statement (.bmi d) :=
  ⟨rfl, lookup_opcode ⟨0x30, .bmi, .rel⟩ (by decide) rfl rfl, rfl, rfl⟩
theorem bne (d : Word) : Statement (.bne d) :=
  ⟨rfl, lookup_opcode ⟨0xD0, .bne, .rel⟩ (by decide) rfl rfl, rfl, rfl⟩
theorem bpl (d : Word) : Statement (.bpl d) :=
  ⟨rfl, lookup_opcode ⟨0x10, .bpl, .rel⟩ (by decide) rfl rfl, rfl, rfl⟩
theorem brk : Statement .brk :=
  ⟨rfl, lookup_opcode ⟨0x00, .brk, .single⟩ (by decide) rfl rfl, rfl, rfl⟩
theorem bvc (d : Word) : Statement (.bvc d) :=
  ⟨rfl, lookup_opcode ⟨0x50, .bvc, .rel⟩ (by decide) rfl rfl, rfl, rfl⟩
theorem bvs (d : Word) : Statement (.bvs d) :=
  ⟨rfl, lookup_opcode ⟨0x70, .bvs, .rel⟩ (by decide) rfl rfl, rfl, rfl⟩
theorem clc : Statement .clc :=
  ⟨rfl, lookup_opcode ⟨0x18, .clc, .single⟩ (by decide) rfl rfl, rfl, rfl⟩
theorem cld : Statement .cld :=
  ⟨rfl, lookup_opcode ⟨0xD8, .cld, .single⟩ (by decide) rfl rfl, rfl, rfl⟩
theorem cli : Statement .cli :=
  ⟨rfl, lookup_opcode ⟨0x58, .cli, .single⟩ (by decide) rfl rfl, rfl, rfl⟩
theorem clv : Statement .clv :=
  ⟨rfl, lookup_opcode ⟨0xB8, .clv, .single⟩ (by decide) rfl rfl, rfl, rfl⟩
theorem cmpImm (v : Word) : Statement (.cmpImm v) :=
  ⟨rfl, lookup_opcode ⟨0xC9, .cmp, .imm⟩ (by decide) rfl rfl, rfl, rfl⟩
theorem cmpZp (z : Word) : Statement (.cmpZp z) :=
  ⟨rfl, lookup_opcode ⟨0xC5, .cmp, .zp⟩ (by decide) rfl rfl, rfl, rfl⟩
theorem cmpZpx (z : Word) : Statement (.cmpZpx z) :=
  ⟨rfl, lookup_opcode ⟨0xD5, .cmp, .zpx⟩ (by decide) rfl rfl, rfl, rfl⟩
theorem cmpAbs (lo hi : Word) : Statement (.cmpAbs lo hi) :=
  ⟨rfl, lookup_opcode ⟨0xCD, .cmp, .abs⟩ (by decide) rfl rfl, rfl, rfl⟩
theorem cmpAbsx (lo hi : Word) : Statement (.cmpAbsx lo hi) :=
  ⟨rfl, lookup_opcode ⟨0xDD, .cmp, .absx⟩ (by decide) rfl rfl, rfl, rfl⟩
theorem cmpAbsy (lo hi : Word) : Statement (.cmpAbsy lo hi) :=
  ⟨rfl, lookup_opcode ⟨0xD9, .cmp, .absy⟩ (by decide) rfl rfl, rfl, rfl⟩
theorem cmpIndx (z : Word) : Statement (.cmpIndx z) :=
  ⟨rfl, lookup_opcode ⟨0xC1, .cmp, .indx⟩ (by decide) rfl rfl, rfl, rfl⟩
theorem cmpIndy (z : Word) : Statement (.cmpIndy z) :=
  ⟨rfl, lookup_opcode ⟨0xD1, .cmp, .indy⟩ (by decide) rfl rfl, rfl, rfl⟩
theorem cpxImm (v : Word) : Statement (.cpxImm v) :=
  ⟨rfl, lookup_opcode ⟨0xE0, .cpx, .imm⟩ (by decide) rfl rfl, rfl, rfl⟩
theorem cpxZp (z : Word) : Statement (.cpxZp z) :=
  ⟨rfl, lookup_opcode ⟨0xE4, .cpx, .zp⟩ (by decide) rfl rfl, rfl, rfl⟩
theorem cpxAbs (lo hi : Word) : Statement (.cpxAbs lo hi) :=
  ⟨rfl, lookup_opcode ⟨0xEC, .cpx, .abs⟩ (by decide) rfl rfl, rfl, rfl⟩
theorem cpyImm (v : Word) : Statement (.cpyImm v) :=
  ⟨rfl, lookup_opcode ⟨0xC0, .cpy, .imm⟩ (by decide) rfl rfl, rfl, rfl⟩
theorem cpyZp (z : Word) : Statement (.cpyZp z) :=
  ⟨rfl, lookup_opcode ⟨0xC4, .cpy, .zp⟩ (by decide) rfl rfl, rfl, rfl⟩
theorem cpyAbs (lo hi : Word) : Statement (.cpyAbs lo hi) :=
  ⟨rfl, lookup_opcode ⟨0xCC, .cpy, .abs⟩ (by decide) rfl rfl, rfl, rfl⟩
theorem decZp (z : Word) : Statement (.decZp z) :=
  ⟨rfl, lookup_opcode ⟨0xC6, .dec, .zp⟩ (by decide) rfl rfl, rfl, rfl⟩
theorem decZpx (z : Word) : Statement (.decZpx z) :=
  ⟨rfl, lookup_opcode ⟨0xD6, .dec, .zpx⟩ (by decide) rfl rfl, rfl, rfl⟩
theorem decAbs (lo hi : Word) : Statement (.decAbs lo hi) :=
  ⟨rfl, lookup_opcode ⟨0xCE, .dec, .abs⟩ (by decide) rfl rfl, rfl, rfl⟩
theorem decAbsx (lo hi : Word) : Statement (.decAbsx lo hi) :=
  ⟨rfl, lookup_opcode ⟨0xDE, .dec, .absx⟩ (by decide) rfl rfl, rfl, rfl⟩
theorem dex : Statement .dex :=
  ⟨rfl, lookup_opcode ⟨0xCA, .dex, .single⟩ (by decide) rfl rfl, rfl, rfl⟩
theorem dey : Statement .dey :=
  ⟨rfl, lookup_opcode ⟨0x88, .dey, .single⟩ (by decide) rfl rfl, rfl, rfl⟩
theorem eorImm (v : Word) : Statement (.eorImm v) :=
  ⟨rfl, lookup_opcode ⟨0x49, .eor, .imm⟩ (by decide) rfl rfl, rfl, rfl⟩
theorem eorZp (z : Word) : Statement (.eorZp z) :=
  ⟨rfl, lookup_opcode ⟨0x45, .eor, .zp⟩ (by decide) rfl rfl, rfl, rfl⟩
theorem eorZpx (z : Word) : Statement (.eorZpx z) :=
  ⟨rfl, lookup_opcode ⟨0x55, .eor, .zpx⟩ (by decide) rfl rfl, rfl, rfl⟩
theorem eorAbs (lo hi : Word) : Statement (.eorAbs lo hi) :=
  ⟨rfl, lookup_opcode ⟨0x4D, .eor, .abs⟩ (by decide) rfl rfl, rfl, rfl⟩
theorem eorAbsx (lo hi : Word) : Statement (.eorAbsx lo hi) :=
  ⟨rfl, lookup_opcode ⟨0x5D, .eor, .absx⟩ (by decide) rfl rfl, rfl, rfl⟩
theorem eorAbsy (lo hi : Word) : Statement (.eorAbsy lo hi) :=
  ⟨rfl, lookup_opcode ⟨0x59, .eor, .absy⟩ (by decide) rfl rfl, rfl, rfl⟩
theorem eorIndx (z : Word) : Statement (.eorIndx z) :=
  ⟨rfl, lookup_opcode ⟨0x41, .eor, .indx⟩ (by decide) rfl rfl, rfl, rfl⟩
theorem eorIndy (z : Word) : Statement (.eorIndy z) :=
  ⟨rfl, lookup_opcode ⟨0x51, .eor, .indy⟩ (by decide) rfl rfl, rfl, rfl⟩
theorem incZp (z : Word) : Statement (.incZp z) :=
  ⟨rfl, lookup_opcode ⟨0xE6, .inc, .zp⟩ (by decide) rfl rfl, rfl, rfl⟩
theorem incZpx (z : Word) : Statement (.incZpx z) :=
  ⟨rfl, lookup_opcode ⟨0xF6, .inc, .zpx⟩ (by decide) rfl rfl, rfl, rfl⟩
theorem incAbs (lo hi : Word) : Statement (.incAbs lo hi) :=
  ⟨rfl, lookup_opcode ⟨0xEE, .inc, .abs⟩ (by decide) rfl rfl, rfl, rfl⟩
theorem incAbsx (lo hi : Word) : Statement (.incAbsx lo hi) :=
  ⟨rfl, lookup_opcode ⟨0xFE, .inc, .absx⟩ (by decide) rfl rfl, rfl, rfl⟩
theorem inx : Statement .inx :=
  ⟨rfl, lookup_opcode ⟨0xE8, .inx, .single⟩ (by decide) rfl rfl, rfl, rfl⟩
theorem iny : Statement .iny :=
  ⟨rfl, lookup_opcode ⟨0xC8, .iny, .single⟩ (by decide) rfl rfl, rfl, rfl⟩
theorem jmpAbs (lo hi : Word) : Statement (.jmpAbs lo hi) :=
  ⟨rfl, lookup_opcode ⟨0x4C, .jmp, .abs⟩ (by decide) rfl rfl, rfl, rfl⟩
theorem jmpInd (lo hi : Word) : Statement (.jmpInd lo hi) :=
  ⟨rfl, lookup_opcode ⟨0x6C, .jmp, .ind⟩ (by decide) rfl rfl, rfl, rfl⟩
theorem jsrAbs (lo hi : Word) : Statement (.jsrAbs lo hi) :=
  ⟨rfl, lookup_opcode ⟨0x20, .jsr, .abs⟩ (by decide) rfl rfl, rfl, rfl⟩
theorem ldaImm (v : Word) : Statement (.ldaImm v) :=
  ⟨rfl, lookup_opcode ⟨0xA9, .lda, .imm⟩ (by decide) rfl rfl, rfl, rfl⟩
theorem ldaZp (z : Word) : Statement (.ldaZp z) :=
  ⟨rfl, lookup_opcode ⟨0xA5, .lda, .zp⟩ (by decide) rfl rfl, rfl, rfl⟩
theorem ldaZpx (z : Word) : Statement (.ldaZpx z) :=
  ⟨rfl, lookup_opcode ⟨0xB5, .lda, .zpx⟩ (by decide) rfl rfl, rfl, rfl⟩
theorem ldaAbs (lo hi : Word) : Statement (.ldaAbs lo hi) :=
  ⟨rfl, lookup_opcode ⟨0xAD, .lda, .abs⟩ (by decide) rfl rfl, rfl, rfl⟩
theorem ldaAbsx (lo hi : Word) : Statement (.ldaAbsx lo hi) :=
  ⟨rfl, lookup_opcode ⟨0xBD, .lda, .absx⟩ (by decide) rfl rfl, rfl, rfl⟩
theorem ldaAbsy (lo hi : Word) : Statement (.ldaAbsy lo hi) :=
  ⟨rfl, lookup_opcode ⟨0xB9, .lda, .absy⟩ (by decide) rfl rfl, rfl, rfl⟩
theorem ldaIndx (z : Word) : Statement (.ldaIndx z) :=
  ⟨rfl, lookup_opcode ⟨0xA1, .lda, .indx⟩ (by decide) rfl rfl, rfl, rfl⟩
theorem ldaIndy (z : Word) : Statement (.ldaIndy z) :=
  ⟨rfl, lookup_opcode ⟨0xB1, .lda, .indy⟩ (by decide) rfl rfl, rfl, rfl⟩
theorem ldxImm (v : Word) : Statement (.ldxImm v) :=
  ⟨rfl, lookup_opcode ⟨0xA2, .ldx, .imm⟩ (by decide) rfl rfl, rfl, rfl⟩
theorem ldxZp (z : Word) : Statement (.ldxZp z) :=
  ⟨rfl, lookup_opcode ⟨0xA6, .ldx, .zp⟩ (by decide) rfl rfl, rfl, rfl⟩
theorem ldxZpy (z : Word) : Statement (.ldxZpy z) :=
  ⟨rfl, lookup_opcode ⟨0xB6, .ldx, .zpy⟩ (by decide) rfl rfl, rfl, rfl⟩
theorem ldxAbs (lo hi : Word) : Statement (.ldxAbs lo hi) :=
  ⟨rfl, lookup_opcode ⟨0xAE, .ldx, .abs⟩ (by decide) rfl rfl, rfl, rfl⟩
theorem ldxAbsy (lo hi : Word) : Statement (.ldxAbsy lo hi) :=
  ⟨rfl, lookup_opcode ⟨0xBE, .ldx, .absy⟩ (by decide) rfl rfl, rfl, rfl⟩
theorem ldyImm (v : Word) : Statement (.ldyImm v) :=
  ⟨rfl, lookup_opcode ⟨0xA0, .ldy, .imm⟩ (by decide) rfl rfl, rfl, rfl⟩
theorem ldyZp (z : Word) : Statement (.ldyZp z) :=
  ⟨rfl, lookup_opcode ⟨0xA4, .ldy, .zp⟩ (by decide) rfl rfl, rfl, rfl⟩
theorem ldyZpx (z : Word) : Statement (.ldyZpx z) :=
  ⟨rfl, lookup_opcode ⟨0xB4, .ldy, .zpx⟩ (by decide) rfl rfl, rfl, rfl⟩
theorem ldyAbs (lo hi : Word) : Statement (.ldyAbs lo hi) :=
  ⟨rfl, lookup_opcode ⟨0xAC, .ldy, .abs⟩ (by decide) rfl rfl, rfl, rfl⟩
theorem ldyAbsx (lo hi : Word) : Statement (.ldyAbsx lo hi) :=
  ⟨rfl, lookup_opcode ⟨0xBC, .ldy, .absx⟩ (by decide) rfl rfl, rfl, rfl⟩
theorem lsrAcc : Statement .lsrAcc :=
  ⟨rfl, lookup_opcode ⟨0x4A, .lsr, .single⟩ (by decide) rfl rfl, rfl, rfl⟩
theorem lsrZp (z : Word) : Statement (.lsrZp z) :=
  ⟨rfl, lookup_opcode ⟨0x46, .lsr, .zp⟩ (by decide) rfl rfl, rfl, rfl⟩
theorem lsrZpx (z : Word) : Statement (.lsrZpx z) :=
  ⟨rfl, lookup_opcode ⟨0x56, .lsr, .zpx⟩ (by decide) rfl rfl, rfl, rfl⟩
theorem lsrAbs (lo hi : Word) : Statement (.lsrAbs lo hi) :=
  ⟨rfl, lookup_opcode ⟨0x4E, .lsr, .abs⟩ (by decide) rfl rfl, rfl, rfl⟩
theorem lsrAbsx (lo hi : Word) : Statement (.lsrAbsx lo hi) :=
  ⟨rfl, lookup_opcode ⟨0x5E, .lsr, .absx⟩ (by decide) rfl rfl, rfl, rfl⟩
theorem nop : Statement .nop :=
  ⟨rfl, lookup_opcode ⟨0xEA, .nop, .single⟩ (by decide) rfl rfl, rfl, rfl⟩
theorem oraImm (v : Word) : Statement (.oraImm v) :=
  ⟨rfl, lookup_opcode ⟨0x09, .ora, .imm⟩ (by decide) rfl rfl, rfl, rfl⟩
theorem oraZp (z : Word) : Statement (.oraZp z) :=
  ⟨rfl, lookup_opcode ⟨0x05, .ora, .zp⟩ (by decide) rfl rfl, rfl, rfl⟩
theorem oraZpx (z : Word) : Statement (.oraZpx z) :=
  ⟨rfl, lookup_opcode ⟨0x15, .ora, .zpx⟩ (by decide) rfl rfl, rfl, rfl⟩
theorem oraAbs (lo hi : Word) : Statement (.oraAbs lo hi) :=
  ⟨rfl, lookup_opcode ⟨0x0D, .ora, .abs⟩ (by decide) rfl rfl, rfl, rfl⟩
theorem oraAbsx (lo hi : Word) : Statement (.oraAbsx lo hi) :=
  ⟨rfl, lookup_opcode ⟨0x1D, .ora, .absx⟩ (by decide) rfl rfl, rfl, rfl⟩
theorem oraAbsy (lo hi : Word) : Statement (.oraAbsy lo hi) :=
  ⟨rfl, lookup_opcode ⟨0x19, .ora, .absy⟩ (by decide) rfl rfl, rfl, rfl⟩
theorem oraIndx (z : Word) : Statement (.oraIndx z) :=
  ⟨rfl, lookup_opcode ⟨0x01, .ora, .indx⟩ (by decide) rfl rfl, rfl, rfl⟩
theorem oraIndy (z : Word) : Statement (.oraIndy z) :=
  ⟨rfl, lookup_opcode ⟨0x11, .ora, .indy⟩ (by decide) rfl rfl, rfl, rfl⟩
theorem pha : Statement .pha :=
  ⟨rfl, lookup_opcode ⟨0x48, .pha, .single⟩ (by decide) rfl rfl, rfl, rfl⟩
theorem php : Statement .php :=
  ⟨rfl, lookup_opcode ⟨0x08, .php, .single⟩ (by decide) rfl rfl, rfl, rfl⟩
theorem pla : Statement .pla :=
  ⟨rfl, lookup_opcode ⟨0x68, .pla, .single⟩ (by decide) rfl rfl, rfl, rfl⟩
theorem plp : Statement .plp :=
  ⟨rfl, lookup_opcode ⟨0x28, .plp, .single⟩ (by decide) rfl rfl, rfl, rfl⟩
theorem rolAcc : Statement .rolAcc :=
  ⟨rfl, lookup_opcode ⟨0x2A, .rol, .single⟩ (by decide) rfl rfl, rfl, rfl⟩
theorem rolZp (z : Word) : Statement (.rolZp z) :=
  ⟨rfl, lookup_opcode ⟨0x26, .rol, .zp⟩ (by decide) rfl rfl, rfl, rfl⟩
theorem rolZpx (z : Word) : Statement (.rolZpx z) :=
  ⟨rfl, lookup_opcode ⟨0x36, .rol, .zpx⟩ (by decide) rfl rfl, rfl, rfl⟩
theorem rolAbs (lo hi : Word) : Statement (.rolAbs lo hi) :=
  ⟨rfl, lookup_opcode ⟨0x2E, .rol, .abs⟩ (by decide) rfl rfl, rfl, rfl⟩
theorem rolAbsx (lo hi : Word) : Statement (.rolAbsx lo hi) :=
  ⟨rfl, lookup_opcode ⟨0x3E, .rol, .absx⟩ (by decide) rfl rfl, rfl, rfl⟩
theorem rorAcc : Statement .rorAcc :=
  ⟨rfl, lookup_opcode ⟨0x6A, .ror, .single⟩ (by decide) rfl rfl, rfl, rfl⟩
theorem rorZp (z : Word) : Statement (.rorZp z) :=
  ⟨rfl, lookup_opcode ⟨0x66, .ror, .zp⟩ (by decide) rfl rfl, rfl, rfl⟩
theorem rorZpx (z : Word) : Statement (.rorZpx z) :=
  ⟨rfl, lookup_opcode ⟨0x76, .ror, .zpx⟩ (by decide) rfl rfl, rfl, rfl⟩
theorem rorAbs (lo hi : Word) : Statement (.rorAbs lo hi) :=
  ⟨rfl, lookup_opcode ⟨0x6E, .ror, .abs⟩ (by decide) rfl rfl, rfl, rfl⟩
theorem rorAbsx (lo hi : Word) : Statement (.rorAbsx lo hi) :=
  ⟨rfl, lookup_opcode ⟨0x7E, .ror, .absx⟩ (by decide) rfl rfl, rfl, rfl⟩
theorem rti : Statement .rti :=
  ⟨rfl, lookup_opcode ⟨0x40, .rti, .single⟩ (by decide) rfl rfl, rfl, rfl⟩
theorem rts : Statement .rts :=
  ⟨rfl, lookup_opcode ⟨0x60, .rts, .single⟩ (by decide) rfl rfl, rfl, rfl⟩
theorem sbcImm (v : Word) : Statement (.sbcImm v) :=
  ⟨rfl, lookup_opcode ⟨0xE9, .sbc, .imm⟩ (by decide) rfl rfl, rfl, rfl⟩
theorem sbcZp (z : Word) : Statement (.sbcZp z) :=
  ⟨rfl, lookup_opcode ⟨0xE5, .sbc, .zp⟩ (by decide) rfl rfl, rfl, rfl⟩
theorem sbcZpx (z : Word) : Statement (.sbcZpx z) :=
  ⟨rfl, lookup_opcode ⟨0xF5, .sbc, .zpx⟩ (by decide) rfl rfl, rfl, rfl⟩
theorem sbcAbs (lo hi : Word) : Statement (.sbcAbs lo hi) :=
  ⟨rfl, lookup_opcode ⟨0xED, .sbc, .abs⟩ (by decide) rfl rfl, rfl, rfl⟩
theorem sbcAbsx (lo hi : Word) : Statement (.sbcAbsx lo hi) :=
  ⟨rfl, lookup_opcode ⟨0xFD, .sbc, .absx⟩ (by decide) rfl rfl, rfl, rfl⟩
theorem sbcAbsy (lo hi : Word) : Statement (.sbcAbsy lo hi) :=
  ⟨rfl, lookup_opcode ⟨0xF9, .sbc, .absy⟩ (by decide) rfl rfl, rfl, rfl⟩
theorem sbcIndx (z : Word) : Statement (.sbcIndx z) :=
  ⟨rfl, lookup_opcode ⟨0xE1, .sbc, .indx⟩ (by decide) rfl rfl, rfl, rfl⟩
theorem sbcIndy (z : Word) : Statement (.sbcIndy z) :=
  ⟨rfl, lookup_opcode ⟨0xF1, .sbc, .indy⟩ (by decide) rfl rfl, rfl, rfl⟩
theorem sec : Statement .sec :=
  ⟨rfl, lookup_opcode ⟨0x38, .sec, .single⟩ (by decide) rfl rfl, rfl, rfl⟩
theorem sed : Statement .sed :=
  ⟨rfl, lookup_opcode ⟨0xF8, .sed, .single⟩ (by decide) rfl rfl, rfl, rfl⟩
theorem sei : Statement .sei :=
  ⟨rfl, lookup_opcode ⟨0x78, .sei, .single⟩ (by decide) rfl rfl, rfl, rfl⟩
theorem staZp (z : Word) : Statement (.staZp z) :=
  ⟨rfl, lookup_opcode ⟨0x85, .sta, .zp⟩ (by decide) rfl rfl, rfl, rfl⟩
theorem staZpx (z : Word) : Statement (.staZpx z) :=
  ⟨rfl, lookup_opcode ⟨0x95, .sta, .zpx⟩ (by decide) rfl rfl, rfl, rfl⟩
theorem staAbs (lo hi : Word) : Statement (.staAbs lo hi) :=
  ⟨rfl, lookup_opcode ⟨0x8D, .sta, .abs⟩ (by decide) rfl rfl, rfl, rfl⟩
theorem staAbsx (lo hi : Word) : Statement (.staAbsx lo hi) :=
  ⟨rfl, lookup_opcode ⟨0x9D, .sta, .absx⟩ (by decide) rfl rfl, rfl, rfl⟩
theorem staAbsy (lo hi : Word) : Statement (.staAbsy lo hi) :=
  ⟨rfl, lookup_opcode ⟨0x99, .sta, .absy⟩ (by decide) rfl rfl, rfl, rfl⟩
theorem staIndx (z : Word) : Statement (.staIndx z) :=
  ⟨rfl, lookup_opcode ⟨0x81, .sta, .indx⟩ (by decide) rfl rfl, rfl, rfl⟩
theorem staIndy (z : Word) : Statement (.staIndy z) :=
  ⟨rfl, lookup_opcode ⟨0x91, .sta, .indy⟩ (by decide) rfl rfl, rfl, rfl⟩
theorem stxZp (z : Word) : Statement (.stxZp z) :=
  ⟨rfl, lookup_opcode ⟨0x86, .stx, .zp⟩ (by decide) rfl rfl, rfl, rfl⟩
theorem stxZpy (z : Word) : Statement (.stxZpy z) :=
  ⟨rfl, lookup_opcode ⟨0x96, .stx, .zpy⟩ (by decide) rfl rfl, rfl, rfl⟩
theorem stxAbs (lo hi : Word) : Statement (.stxAbs lo hi) :=
  ⟨rfl, lookup_opcode ⟨0x8E, .stx, .abs⟩ (by decide) rfl rfl, rfl, rfl⟩
theorem styZp (z : Word) : Statement (.styZp z) :=
  ⟨rfl, lookup_opcode ⟨0x84, .sty, .zp⟩ (by decide) rfl rfl, rfl, rfl⟩
theorem styZpx (z : Word) : Statement (.styZpx z) :=
  ⟨rfl, lookup_opcode ⟨0x94, .sty, .zpx⟩ (by decide) rfl rfl, rfl, rfl⟩
theorem styAbs (lo hi : Word) : Statement (.styAbs lo hi) :=
  ⟨rfl, lookup_opcode ⟨0x8C, .sty, .abs⟩ (by decide) rfl rfl, rfl, rfl⟩
theorem tax : Statement .tax :=
  ⟨rfl, lookup_opcode ⟨0xAA, .tax, .single⟩ (by decide) rfl rfl, rfl, rfl⟩
theorem tay : Statement .tay :=
  ⟨rfl, lookup_opcode ⟨0xA8, .tay, .single⟩ (by decide) rfl rfl, rfl, rfl⟩
theorem tsx : Statement .tsx :=
  ⟨rfl, lookup_opcode ⟨0xBA, .tsx, .single⟩ (by decide) rfl rfl, rfl, rfl⟩
theorem txa : Statement .txa :=
  ⟨rfl, lookup_opcode ⟨0x8A, .txa, .single⟩ (by decide) rfl rfl, rfl, rfl⟩
theorem txs : Statement .txs :=
  ⟨rfl, lookup_opcode ⟨0x9A, .txs, .single⟩ (by decide) rfl rfl, rfl, rfl⟩
theorem tya : Statement .tya :=
  ⟨rfl, lookup_opcode ⟨0x98, .tya, .single⟩ (by decide) rfl rfl, rfl, rfl⟩

end Sys2Proof.Laws.EncodingCells
end

