-- ==== Sys2Proof/Laws/Step.lean ====
section
/-! SUPPORT. Everything a step can do, said once, and the parts of a session that no instruction and no step changes. -/

namespace Sys2Proof.Machine

/-- The parts of a session that instructions leave alone. -/
abbrev SameSetup (s t : State) : Prop :=
  t.width = s.width ∧ t.origin = s.origin ∧ t.labels = s.labels ∧ t.cursor = s.cursor ∧
  t.codeLength = s.codeLength ∧ t.running = s.running

theorem SameSetup.trans {s t u : State} (h : SameSetup s t) (g : SameSetup t u) : SameSetup s u :=
  ⟨g.1.trans h.1, g.2.1.trans h.2.1, g.2.2.1.trans h.2.2.1, g.2.2.2.1.trans h.2.2.2.1,
    g.2.2.2.2.1.trans h.2.2.2.2.1, g.2.2.2.2.2.trans h.2.2.2.2.2⟩

theorem effect_sameSetup (m : Mnemonic) (o : Operand) (s : State) : SameSetup s (effect m o s) := by
  have shifts : ∀ f, SameSetup s (shiftEffect f o s) := by
    intro f
    unfold shiftEffect
    split <;> simp [SameSetup, shiftA, shiftMem]
  have branches : ∀ c d, SameSetup s (branch s c d) := by
    intro c d
    unfold branch
    split_ifs <;> simp [SameSetup]
  cases m
  case asl | lsr | rol | ror => exact shifts _
  case bcc | bcs | beq | bne | bmi | bpl | bvc | bvs => exact branches _ _
  all_goals
    simp [SameSetup, effect, adc, sbc, State.applyAlu, land, lora, leor, State.compare, bitTest, lda, ldx, ldy, sta,
      stx, sty, incMem, decMem, jsr, rts, rti, pla, plp]

/-- The status after an instruction: only BRK, CLI and SEI change it (60_exceptions R286). -/
theorem effect_status (m : Mnemonic) (o : Operand) (s : State) :
    (effect m o s).status =
      match m with
      | .brk => .halted .brk s.opcodeAddr
      | .cli | .sei => .halted .unimplementedFeature s.opcodeAddr
      | _ => s.status := by
  have shifts : ∀ f, (shiftEffect f o s).status = s.status := by
    intro f
    unfold shiftEffect
    split <;> simp [shiftA, shiftMem]
  have branches : ∀ c d, (branch s c d).status = s.status := by
    intro c d
    unfold branch
    split_ifs <;> simp
  cases m
  case asl | lsr | rol | ror => exact shifts _
  case bcc | bcs | beq | bne | bmi | bpl | bvc | bvs => exact branches _ _
  all_goals
    simp [effect, adc, sbc, State.applyAlu, land, lora, leor, State.compare, bitTest, lda, ldx, ldy, sta,
      stx, sty, incMem, decMem, jsr, rts, rti, pla, plp]

/-- Everything a step can do: an unmapped cell halts, and a decoded instruction has its effect, then the PC-zero check
(30_encoding R83, R98). -/
theorem step_cases {s t : State} (h : step s = .next t) :
    s.status = .ready ∧
      ((∃ e, decode s.refresh.fetchCells = .error e ∧ t = s.refresh.unknownOpcode) ∨
        ∃ i rest, decode s.refresh.fetchCells = .ok (i, rest) ∧
          t = (effect i.mnemonic i.operand (s.refresh.advance i.length)).pcZeroCheck) := by
  unfold step at h
  cases hs : s.status with
  | halted r pc => rw [hs] at h; cases h
  | ready =>
    rw [hs] at h
    refine ⟨rfl, ?_⟩
    cases hd : decode s.refresh.fetchCells with
    | error e => simp only [hd, Host.Outcome.next.injEq] at h; exact .inl ⟨e, rfl, h.symm⟩
    | ok p =>
      simp only [hd, exec_eq_effect, Host.Outcome.next.injEq] at h
      exact .inr ⟨p.1, p.2, rfl, h.symm⟩

theorem State.pcZeroCheck_sameSetup (s : State) : SameSetup s s.pcZeroCheck := by
  unfold State.pcZeroCheck
  split_ifs <;> simp [SameSetup]

theorem step_sameSetup {s t : State} (h : step s = .next t) : SameSetup s t := by
  have refreshed : SameSetup s s.refresh := by simp [SameSetup]
  rcases step_cases h with ⟨-, ⟨e, -, rfl⟩ | ⟨i, rest, -, rfl⟩⟩
  · exact refreshed.trans (by simp [SameSetup, State.unknownOpcode])
  · have advanced : SameSetup s (s.refresh.advance i.length) := by simp [SameSetup]
    exact (advanced.trans (effect_sameSetup _ _ _)).trans (State.pcZeroCheck_sameSetup _)

/-- Every row of the table reads its operand from two cells and names an instruction. -/
theorem takeOperand_of_mem_opcodeTable {r : OpcodeRow} (h : r ∈ opcodeTable) (a b : Word) :
    ∃ o rest i, takeOperand r.mode [a, b] = some (o, rest) ∧ Instr.ofParts r.mnemonic o = some i := by
  simp only [opcodeTable, List.mem_append, opcodeRowsAdcBmi, opcodeRowsBneCli, opcodeRowsClvEor, opcodeRowsIncLdy,
    opcodeRowsLsrRol, opcodeRowsRorSta, opcodeRowsStxTya, List.mem_cons, List.not_mem_nil, or_false] at h
  repeat' rcases h with h | h
  all_goals exact ⟨_, _, _, rfl, rfl⟩

/-- Decoding at PC fails only on an opcode cell outside the table (30_encoding R98). -/
theorem State.lookupOpcode_of_fetch_error {s : State} {e : DecodeError} (h : decode s.fetchCells = .error e) :
    lookupOpcode (s.read s.pc.toNat).toNat = none := by
  cases hl : lookupOpcode (s.read s.pc.toNat).toNat with
  | none => rfl
  | some r =>
    obtain ⟨o, rest, i, ho, hi⟩ := takeOperand_of_mem_opcodeTable (List.mem_of_find?_eq_some hl)
      (s.read (s.width.addr (s.pc.toNat + 1))) (s.read (s.width.addr (s.pc.toNat + 2)))
    simp [State.fetchCells, decode, hl, ho, hi] at h

end Sys2Proof.Machine
end

