-- ==== Sys2Proof/Tests/Slice0.lean ====
section
/-! SUPPORT. The model's own tests. Expected results are written from the spec: the opcode cells of 30_encoding R101 and
of the instruction rules, and the vectors of 95_test_vectors (each test names its vector). Then, for each statement of
Certificates/Slice0 that has hypotheses, states and operands that meet them together. -/

namespace Sys2Proof.Tests

open Sys2Proof Sys2Proof.Machine

set_option Elab.async false

/-! Well-formedness: an operand cell above DM is refused, in each place an operand cell can stand. -/

theorem test_wf_one_cell : (Instr.ldaImm 0xFF).wf .w8 = true ∧ (Instr.ldaImm 0x100).wf .w8 = false := by decide
theorem test_wf_low_cell : (Instr.jmpAbs 0xFF 0xFF).wf .w8 = true ∧ (Instr.jmpAbs 0x100 0x00).wf .w8 = false := by decide
theorem test_wf_high_cell : (Instr.jmpInd 0x00 0xFF).wf .w8 = true ∧ (Instr.jmpInd 0x00 0x100).wf .w8 = false := by decide
theorem test_wf_branch : (Instr.bne 0xFF).wf .w8 = true ∧ (Instr.bne 0x100).wf .w8 = false := by decide
theorem test_wf_w16 : (Instr.staZp 0xFFFF).wf .w16 = true ∧ (Instr.staZp 0x10000).wf .w16 = false := by decide
theorem test_wf_w32 : (Instr.staZp 0xFFFFFFFF).wf .w32 = true ∧ Instr.brk.wf .w8 = true := by decide

/-! Decoding: for every constructor a word written from its encoding (30_encoding R81, R101 and the Encoding field of its
rule), numbered as the opcode table numbers it: first cell in bits 7..0, then the operand cells 0x34 and 0x12. -/

theorem test_decode_loads : ∀ r ∈ ([
    (16, 0x34A9, .ldaImm 0x34), (16, 0x34A5, .ldaZp 0x34), (16, 0x34B5, .ldaZpx 0x34),
    (24, 0x1234AD, .ldaAbs 0x34 0x12), (24, 0x1234BD, .ldaAbsx 0x34 0x12), (24, 0x1234B9, .ldaAbsy 0x34 0x12),
    (16, 0x34A1, .ldaIndx 0x34), (16, 0x34B1, .ldaIndy 0x34), (16, 0x34A2, .ldxImm 0x34), (16, 0x34A6, .ldxZp 0x34),
    (16, 0x34B6, .ldxZpy 0x34), (24, 0x1234AE, .ldxAbs 0x34 0x12), (24, 0x1234BE, .ldxAbsy 0x34 0x12),
    (16, 0x34A0, .ldyImm 0x34), (16, 0x34A4, .ldyZp 0x34), (16, 0x34B4, .ldyZpx 0x34),
    (24, 0x1234AC, .ldyAbs 0x34 0x12), (24, 0x1234BC, .ldyAbsx 0x34 0x12)] : List (Nat × Nat × Instr)),
    decodeTableWord r.1 r.2.1 = some r.2.2 := by decide +kernel
theorem test_decode_stores : ∀ r ∈ ([
    (16, 0x3485, .staZp 0x34), (16, 0x3495, .staZpx 0x34), (24, 0x12348D, .staAbs 0x34 0x12),
    (24, 0x12349D, .staAbsx 0x34 0x12), (24, 0x123499, .staAbsy 0x34 0x12), (16, 0x3481, .staIndx 0x34),
    (16, 0x3491, .staIndy 0x34), (16, 0x3486, .stxZp 0x34), (16, 0x3496, .stxZpy 0x34),
    (24, 0x12348E, .stxAbs 0x34 0x12), (16, 0x3484, .styZp 0x34), (16, 0x3494, .styZpx 0x34),
    (24, 0x12348C, .styAbs 0x34 0x12)] : List (Nat × Nat × Instr)),
    decodeTableWord r.1 r.2.1 = some r.2.2 := by decide +kernel
theorem test_decode_transfers : ∀ r ∈ ([
    (8, 0xAA, .tax), (8, 0xA8, .tay), (8, 0x8A, .txa), (8, 0x98, .tya), (8, 0xBA, .tsx), (8, 0x9A, .txs)] : List (Nat × Nat × Instr)),
    decodeTableWord r.1 r.2.1 = some r.2.2 := by decide +kernel
theorem test_decode_adc_sbc : ∀ r ∈ ([
    (16, 0x3469, .adcImm 0x34), (16, 0x3465, .adcZp 0x34), (16, 0x3475, .adcZpx 0x34),
    (24, 0x12346D, .adcAbs 0x34 0x12), (24, 0x12347D, .adcAbsx 0x34 0x12), (24, 0x123479, .adcAbsy 0x34 0x12),
    (16, 0x3461, .adcIndx 0x34), (16, 0x3471, .adcIndy 0x34), (16, 0x34E9, .sbcImm 0x34), (16, 0x34E5, .sbcZp 0x34),
    (16, 0x34F5, .sbcZpx 0x34), (24, 0x1234ED, .sbcAbs 0x34 0x12), (24, 0x1234FD, .sbcAbsx 0x34 0x12),
    (24, 0x1234F9, .sbcAbsy 0x34 0x12), (16, 0x34E1, .sbcIndx 0x34), (16, 0x34F1, .sbcIndy 0x34)] : List (Nat × Nat × Instr)),
    decodeTableWord r.1 r.2.1 = some r.2.2 := by decide +kernel
theorem test_decode_and_ora : ∀ r ∈ ([
    (16, 0x3429, .andImm 0x34), (16, 0x3425, .andZp 0x34), (16, 0x3435, .andZpx 0x34),
    (24, 0x12342D, .andAbs 0x34 0x12), (24, 0x12343D, .andAbsx 0x34 0x12), (24, 0x123439, .andAbsy 0x34 0x12),
    (16, 0x3421, .andIndx 0x34), (16, 0x3431, .andIndy 0x34), (16, 0x3409, .oraImm 0x34), (16, 0x3405, .oraZp 0x34),
    (16, 0x3415, .oraZpx 0x34), (24, 0x12340D, .oraAbs 0x34 0x12), (24, 0x12341D, .oraAbsx 0x34 0x12),
    (24, 0x123419, .oraAbsy 0x34 0x12), (16, 0x3401, .oraIndx 0x34), (16, 0x3411, .oraIndy 0x34)] : List (Nat × Nat × Instr)),
    decodeTableWord r.1 r.2.1 = some r.2.2 := by decide +kernel
theorem test_decode_eor_bit : ∀ r ∈ ([
    (16, 0x3449, .eorImm 0x34), (16, 0x3445, .eorZp 0x34), (16, 0x3455, .eorZpx 0x34),
    (24, 0x12344D, .eorAbs 0x34 0x12), (24, 0x12345D, .eorAbsx 0x34 0x12), (24, 0x123459, .eorAbsy 0x34 0x12),
    (16, 0x3441, .eorIndx 0x34), (16, 0x3451, .eorIndy 0x34), (16, 0x3424, .bitZp 0x34),
    (24, 0x12342C, .bitAbs 0x34 0x12)] : List (Nat × Nat × Instr)),
    decodeTableWord r.1 r.2.1 = some r.2.2 := by decide +kernel
theorem test_decode_compares : ∀ r ∈ ([
    (16, 0x34C9, .cmpImm 0x34), (16, 0x34C5, .cmpZp 0x34), (16, 0x34D5, .cmpZpx 0x34),
    (24, 0x1234CD, .cmpAbs 0x34 0x12), (24, 0x1234DD, .cmpAbsx 0x34 0x12), (24, 0x1234D9, .cmpAbsy 0x34 0x12),
    (16, 0x34C1, .cmpIndx 0x34), (16, 0x34D1, .cmpIndy 0x34), (16, 0x34E0, .cpxImm 0x34), (16, 0x34E4, .cpxZp 0x34),
    (24, 0x1234EC, .cpxAbs 0x34 0x12), (16, 0x34C0, .cpyImm 0x34), (16, 0x34C4, .cpyZp 0x34),
    (24, 0x1234CC, .cpyAbs 0x34 0x12)] : List (Nat × Nat × Instr)),
    decodeTableWord r.1 r.2.1 = some r.2.2 := by decide +kernel
theorem test_decode_increments : ∀ r ∈ ([
    (16, 0x34E6, .incZp 0x34), (16, 0x34F6, .incZpx 0x34), (24, 0x1234EE, .incAbs 0x34 0x12),
    (24, 0x1234FE, .incAbsx 0x34 0x12), (16, 0x34C6, .decZp 0x34), (16, 0x34D6, .decZpx 0x34),
    (24, 0x1234CE, .decAbs 0x34 0x12), (24, 0x1234DE, .decAbsx 0x34 0x12), (8, 0xE8, .inx), (8, 0xC8, .iny),
    (8, 0xCA, .dex), (8, 0x88, .dey)] : List (Nat × Nat × Instr)),
    decodeTableWord r.1 r.2.1 = some r.2.2 := by decide +kernel
theorem test_decode_asl_lsr : ∀ r ∈ ([
    (8, 0x0A, .aslAcc), (16, 0x3406, .aslZp 0x34), (16, 0x3416, .aslZpx 0x34), (24, 0x12340E, .aslAbs 0x34 0x12),
    (24, 0x12341E, .aslAbsx 0x34 0x12), (8, 0x4A, .lsrAcc), (16, 0x3446, .lsrZp 0x34), (16, 0x3456, .lsrZpx 0x34),
    (24, 0x12344E, .lsrAbs 0x34 0x12), (24, 0x12345E, .lsrAbsx 0x34 0x12)] : List (Nat × Nat × Instr)),
    decodeTableWord r.1 r.2.1 = some r.2.2 := by decide +kernel
theorem test_decode_rol_ror : ∀ r ∈ ([
    (8, 0x2A, .rolAcc), (16, 0x3426, .rolZp 0x34), (16, 0x3436, .rolZpx 0x34), (24, 0x12342E, .rolAbs 0x34 0x12),
    (24, 0x12343E, .rolAbsx 0x34 0x12), (8, 0x6A, .rorAcc), (16, 0x3466, .rorZp 0x34), (16, 0x3476, .rorZpx 0x34),
    (24, 0x12346E, .rorAbs 0x34 0x12), (24, 0x12347E, .rorAbsx 0x34 0x12)] : List (Nat × Nat × Instr)),
    decodeTableWord r.1 r.2.1 = some r.2.2 := by decide +kernel
theorem test_decode_control : ∀ r ∈ ([
    (24, 0x12344C, .jmpAbs 0x34 0x12), (24, 0x12346C, .jmpInd 0x34 0x12), (24, 0x123420, .jsrAbs 0x34 0x12),
    (8, 0x60, .rts), (8, 0x40, .rti), (8, 0x00, .brk), (8, 0xEA, .nop)] : List (Nat × Nat × Instr)),
    decodeTableWord r.1 r.2.1 = some r.2.2 := by decide +kernel
theorem test_decode_branches : ∀ r ∈ ([
    (16, 0x3490, .bcc 0x34), (16, 0x34B0, .bcs 0x34), (16, 0x34F0, .beq 0x34), (16, 0x34D0, .bne 0x34),
    (16, 0x3430, .bmi 0x34), (16, 0x3410, .bpl 0x34), (16, 0x3450, .bvc 0x34), (16, 0x3470, .bvs 0x34)] : List (Nat × Nat × Instr)),
    decodeTableWord r.1 r.2.1 = some r.2.2 := by decide +kernel
theorem test_decode_stack_flags : ∀ r ∈ ([
    (8, 0x48, .pha), (8, 0x08, .php), (8, 0x68, .pla), (8, 0x28, .plp), (8, 0x18, .clc), (8, 0x38, .sec),
    (8, 0xD8, .cld), (8, 0xF8, .sed), (8, 0xB8, .clv), (8, 0x58, .cli), (8, 0x78, .sei)] : List (Nat × Nat × Instr)),
    decodeTableWord r.1 r.2.1 = some r.2.2 := by decide +kernel
theorem test_decode_unmapped : decodeTableWord 8 0x02 = none ∧ decodeTableWord 8 0xFF = none ∧
    decode [0x1A9, 0x05] = .error (.unknownOpcode 0x1A9) := ⟨by decide, by decide, rfl⟩

/-! One step from a small state: the reset state of a profile, a draw of 0 (95_test_vectors, conventions), the
instruction's cells at 0x600, and the cells listed. -/

/-- The start state of a vector. -/
def start (w : Width) (cells : List Nat) (data : List (Nat × Word) := []) : State :=
  data.foldl (fun s c => s.poke c.1 c.2)
    ((State.launch w 0x600 [0] 0).placeAtPc (cells.map (BitVec.ofNat 32)))

/-- The state after one step. -/
def after (s : State) : State :=
  match step s with
  | .next t => t
  | .fault _ => s
  | .refused _ => s

theorem test_AM1_lda_zpx : let t := after ({ start .w8 [0xB5, 0xF0] [(0x10, 0x11)] with x := 0x20 });
    t.a = 0x11 ∧ t.pc = 0x602 := by decide +kernel
theorem test_AM2_ldx_zpy : let t := after ({ start .w8 [0xB6, 0xF0] [(0x10, 0x44)] with y := 0x20 });
    t.x = 0x44 ∧ t.pc = 0x602 := by decide +kernel
theorem test_AM3_stx_zpy : let t := after ({ start .w8 [0x96, 0xFF] with x := 0x33, y := 0x1 });
    t.read 0x0 = 0x33 ∧ t.pc = 0x602 := by decide +kernel
theorem test_AM4_lda_absy : let t := after ({ start .w8 [0xB9, 0xF0, 0x12] [(0x1310, 0x33)] with y := 0x20 });
    t.a = 0x33 ∧ t.pc = 0x603 := by decide +kernel
theorem test_AM5_lda_absx : let t := after ({ start .w8 [0xBD, 0xF0, 0xFF] [(0x10, 0x22)] with x := 0x20 });
    t.a = 0x22 ∧ t.pc = 0x603 := by decide +kernel
theorem test_AM6_sta_absx : let t := after ({ start .w8 [0x9D, 0xFF, 0xFF] with a := 0x55, x := 0x2 });
    t.read 0x1 = 0x55 ∧ t.pc = 0x603 := by decide +kernel
theorem test_AM8_jmp_ind : let t := after (start .w8 [0x6C, 0xFF, 0x02] [(0x2FF, 0x34), (0x300, 0x12), (0x200, 0x99)]);
    t.pc = 0x1234 := by decide +kernel
theorem test_AM9_lda_indx : let t := after (start .w8 [0xA1, 0xFF] [(0x100, 0x3), (0x300, 0x44)]);
    t.a = 0x44 := by decide +kernel
theorem test_AM11_lda_indy : let t := after ({ start .w8 [0xB1, 0xFF] [(0xFF, 0xFF), (0x100, 0x2), (0x300, 0x55)] with y := 0x1 });
    t.a = 0x55 := by decide +kernel
theorem test_AM12_lda_indy_wrap : let t := after ({ start .w8 [0xB1, 0x10] [(0x10, 0xFF), (0x11, 0xFF), (0x1, 0x66)] with y := 0x2 });
    t.a = 0x66 := by decide +kernel
theorem test_AM13_lda_zpx_w16 : let t := after ({ start .w16 [0xB5, 0xFFF0] [(0x10, 0x1234)] with x := 0x20 });
    t.a = 0x1234 ∧ t.pc = 0x602 := by decide +kernel
theorem test_AM14_lda_indy_w32 : let t := after ({ start .w32 [0xB1, 0x10] [(0x10, 0x1000), (0x11, 0xDEAD), (0x1001, 0x99)] with y := 0x1 });
    t.a = 0x99 := by decide +kernel
theorem test_AM15_jmp_ind_w32 : let t := after (start .w32 [0x6C, 0x10, 0x0] [(0x10, 0x700), (0x11, 0xFFFF)]);
    t.pc = 0x700 := by decide +kernel
theorem test_L1_lda : let t := after ({ start .w8 [0xA9, 0x00] with a := 0x5 });
    t.a = 0x0 ∧ t.p = 0x32 ∧ t.pc = 0x602 := by decide +kernel
theorem test_L3_ldx : let t := after (start .w8 [0xA6, 0x10] [(0x10, 0x7F)]);
    t.x = 0x7F ∧ t.p = 0x30 := by decide +kernel
theorem test_L4_ldy : let t := after ({ start .w8 [0xBC, 0x34, 0x12] [(0x1235, 0x1)] with x := 0x1 });
    t.y = 0x1 ∧ t.p = 0x30 ∧ t.pc = 0x603 := by decide +kernel
theorem test_L5_sta : let t := after ({ start .w8 [0x8D, 0x00, 0x02] with a := 0xA });
    t.read 0x200 = 0x0A ∧ t.p = 0x30 ∧ t.trace = [.onMemoryWrite 0x200 0x0A, .onMemoryWrite 0xFE 0] := by decide +kernel
theorem test_L6_sty : let t := after ({ start .w8 [0x8C, 0x00, 0x02] with y := 0x80 });
    t.read 0x200 = 0x80 ∧ t.p = 0x30 := by decide +kernel
theorem test_L7_tax : let t := after ({ start .w8 [0xAA] with x := 0x5 });
    t.x = 0x0 ∧ t.p = 0x32 := by decide +kernel
theorem test_L8_tay : let t := after ({ start .w8 [0xA8] with a := 0x90 });
    t.y = 0x90 ∧ t.p = 0xB0 := by decide +kernel
theorem test_L9_txa : let t := after ({ start .w8 [0x8A] with a := 0x5 });
    t.a = 0x0 ∧ t.p = 0x32 := by decide +kernel
theorem test_L10_tya : let t := after ({ start .w8 [0x98] with y := 0x1 });
    t.a = 0x1 ∧ t.p = 0x30 := by decide +kernel
theorem test_L11_tsx : let t := after (start .w8 [0xBA]);
    t.x = 0xFF ∧ t.p = 0xB0 := by decide +kernel
theorem test_L12_tsx_w16 : let t := after (start .w16 [0xBA]);
    t.x = 0xFF ∧ t.p = 0x30 := by decide +kernel
theorem test_L13_txs : let t := after (start .w8 [0x9A]);
    t.sp = 0x0 ∧ t.p = 0x30 := by decide +kernel
theorem test_L14_lda_w16 : let t := after (start .w16 [0xA9, 0x8000]);
    t.a = 0x8000 ∧ t.p = 0x8030 := by decide +kernel
theorem test_L15_lda_w32 : let t := after (start .w32 [0xAD, 0x10, 0x0] [(0x10, 0x80000000)]);
    t.a = 0x80000000 ∧ t.p = 0x80000030 ∧ t.pc = 0x603 := by decide +kernel
theorem test_adc_signed_overflow : let t := after ({ start .w8 [0x69, 0x50] with a := 0x50, p := 0x30 });
    t.a = 0xA0 ∧ t.p = 0xF0 := by decide +kernel
theorem test_adc_negative_overflow : let t := after ({ start .w8 [0x69, 0xFF] with a := 0x80, p := 0x30 });
    t.a = 0x7F ∧ t.p = 0x71 := by decide +kernel
theorem test_adc_w16 : let t := after ({ start .w16 [0x69, 0x1] with a := 0x7FFF, p := 0x30 });
    t.a = 0x8000 ∧ t.p = 0xC030 := by decide +kernel
theorem test_sbc_borrow : let t := after ({ start .w8 [0xE9, 0x5] with a := 0x5, p := 0x30 });
    t.a = 0xFF ∧ t.p = 0xB0 := by decide +kernel
theorem test_sbc_w32 : let t := after ({ start .w32 [0xE9, 0x1] with a := 0x80000000, p := 0x31 });
    t.a = 0x7FFFFFFF ∧ t.p = 0x40000031 := by decide +kernel
theorem test_adc_decimal : let t := after ({ start .w8 [0x69, 0x46] with a := 0x58, p := 0x39 });
    t.a = 0x5 ∧ t.p = 0x79 := by decide +kernel
theorem test_adc_invalid_bcd : let t := after ({ start .w8 [0x69, 0xF] with a := 0xF, p := 0x38 });
    t.a = 0x14 ∧ t.p = 0x38 := by decide +kernel
theorem test_sbc_decimal : let t := after ({ start .w8 [0xE9, 0x34] with a := 0x21, p := 0x39 });
    t.a = 0x87 ∧ t.p = 0xB8 := by decide +kernel
theorem test_sbc_invalid_bcd : let t := after ({ start .w8 [0xE9, 0x0] with a := 0xA, p := 0x39 });
    t.a = 0xA ∧ t.p = 0x39 := by decide +kernel
theorem test_AL2_and : let t := after ({ start .w8 [0x29, 0x3C] with a := 0xF0 });
    t.a = 0x30 ∧ t.p = 0x30 := by decide +kernel
theorem test_AL3_ora : let t := after ({ start .w8 [0x09, 0x80] with a := 0x1 });
    t.a = 0x81 ∧ t.p = 0xB0 := by decide +kernel
theorem test_AL4_eor : let t := after ({ start .w8 [0x49, 0xFF] with a := 0xFF });
    t.a = 0x0 ∧ t.p = 0x32 := by decide +kernel
theorem test_AL7_cmp : let t := after ({ start .w8 [0xC9, 0x00] with a := 0x80 });
    t.a = 0x80 ∧ t.p = 0xB1 := by decide +kernel
theorem test_AL11_cmp_decimal : let t := after ({ start .w8 [0xC9, 0x05] with a := 0x5, p := 0x38 });
    t.p = 0x3B := by decide +kernel
theorem test_AL9_cpx : let t := after ({ start .w8 [0xE0, 0x05] with x := 0x3 });
    t.x = 0x3 ∧ t.p = 0xB0 := by decide +kernel
theorem test_AL10_cpy : let t := after ({ start .w8 [0xC0, 0xFF] with y := 0x1 });
    t.y = 0x1 ∧ t.p = 0x30 := by decide +kernel
theorem test_AL12_bit : let t := after (start .w8 [0x24, 0x10] [(0x10, 0xC0)]);
    t.a = 0x0 ∧ t.p = 0xF2 := by decide +kernel
theorem test_AL14_bit_w16 : let t := after (start .w16 [0x2C, 0x10, 0x0] [(0x10, 0xC000)]);
    t.p = 0xC032 := by decide +kernel
theorem test_ID2_inc : let t := after ({ start .w8 [0xFE, 0x00, 0x02] [(0x201, 0x7F)] with x := 0x1 });
    t.read 0x201 = 0x80 ∧ t.p = 0xB0 := by decide +kernel
theorem test_ID21_inc_event : let t := after (start .w8 [0xE6, 0x10] [(0x10, 0x5)]);
    t.trace = [.onMemoryWrite 0x10 0x06, .onMemoryWrite 0xFE 0] := by decide +kernel
theorem test_ID3_dec : let t := after (start .w8 [0xC6, 0x10]);
    t.read 0x10 = 0xFF ∧ t.p = 0xB0 := by decide +kernel
theorem test_ID5_inx : let t := after ({ start .w8 [0xE8] with x := 0xFF });
    t.x = 0x0 ∧ t.p = 0x32 := by decide +kernel
theorem test_ID6_iny : let t := after ({ start .w8 [0xC8] with y := 0x7F });
    t.y = 0x80 ∧ t.p = 0xB0 := by decide +kernel
theorem test_ID7_dex : let t := after (start .w8 [0xCA]);
    t.x = 0xFF ∧ t.p = 0xB0 := by decide +kernel
theorem test_ID8_dey : let t := after ({ start .w8 [0x88] with y := 0x1 });
    t.y = 0x0 ∧ t.p = 0x32 := by decide +kernel
theorem test_ID10_asl : let t := after ({ start .w8 [0x0A] with a := 0x81 });
    t.a = 0x2 ∧ t.p = 0x31 := by decide +kernel
theorem test_ID11_asl_zp : let t := after (start .w8 [0x06, 0x10] [(0x10, 0x40)]);
    t.read 0x10 = 0x80 ∧ t.p = 0xB0 := by decide +kernel
theorem test_ID13_lsr : let t := after ({ start .w8 [0x4A] with a := 0x1 });
    t.a = 0x0 ∧ t.p = 0x33 := by decide +kernel
theorem test_ID14_lsr_zpx : let t := after ({ start .w8 [0x56, 0x10] [(0x11, 0x80)] with x := 0x1 });
    t.read 0x11 = 0x40 ∧ t.p = 0x30 := by decide +kernel
theorem test_ID15_rol : let t := after ({ start .w8 [0x2A] with a := 0x80, p := 0x31 });
    t.a = 0x1 ∧ t.p = 0x31 := by decide +kernel
theorem test_ID16_rol_abs : let t := after (start .w8 [0x2E, 0x00, 0x03] [(0x300, 0xFF)]);
    t.read 0x300 = 0xFE ∧ t.p = 0xB1 := by decide +kernel
theorem test_ID17_ror : let t := after ({ start .w8 [0x6A] with a := 0x1, p := 0x31 });
    t.a = 0x80 ∧ t.p = 0xB1 := by decide +kernel
theorem test_ID19_ror_w32 : let t := after ({ start .w32 [0x6A] with p := 0x31 });
    t.a = 0x80000000 ∧ t.p = 0x80000030 := by decide +kernel
theorem test_CT1_jmp : let t := after (start .w8 [0x4C, 0x34, 0x12]);
    t.pc = 0x1234 ∧ t.status = .ready := by decide +kernel
theorem test_CT2_jmp_zero : let t := after (start .w8 [0x4C, 0x00, 0x00]);
    t.pc = 0x0 ∧ t.status = .halted .pcZero 0 := by decide +kernel
theorem test_CT3_jsr : let t := after (start .w8 [0x20, 0x34, 0x12]);
    t.read 0x1FF = 0x6 ∧ t.read 0x1FE = 0x2 ∧ t.sp = 0xFD ∧ t.pc = 0x1234 := by decide +kernel
theorem test_CT4_rts : let t := after ({ start .w8 [0x60] [(0x1FE, 0x2), (0x1FF, 0x6)] with sp := 0xFD });
    t.sp = 0xFF ∧ t.pc = 0x603 := by decide +kernel
theorem test_CT5_rti : let t := after ({ start .w8 [0x40] [(0x1FD, 0xC3), (0x1FE, 0x0), (0x1FF, 0x7)] with sp := 0xFC });
    t.p = 0xF3 ∧ t.sp = 0xFF ∧ t.pc = 0x700 := by decide +kernel
theorem test_CT6_bne : let t := after (start .w8 [0xD0, 0x05]);
    t.pc = 0x607 := by decide +kernel
theorem test_CT7_bne_not_taken : let t := after ({ start .w8 [0xD0, 0x05] with p := 0x32 });
    t.pc = 0x602 := by decide +kernel
theorem test_CT8_beq : let t := after ({ start .w8 [0xF0, 0xFE] with p := 0x32 });
    t.pc = 0x600 := by decide +kernel
theorem test_CT9_bcc : let t := after (start .w8 [0x90, 0x80]);
    t.pc = 0x582 := by decide +kernel
theorem test_CT10_bcs : let t := after ({ start .w8 [0xB0, 0x7F] with p := 0x31 });
    t.pc = 0x681 := by decide +kernel
theorem test_CT11_bmi : let t := after ({ start .w8 [0x30, 0x00] with p := 0xB0 });
    t.pc = 0x602 := by decide +kernel
theorem test_CT12_bpl : let t := after (start .w8 [0x10, 0x10]);
    t.pc = 0x612 := by decide +kernel
theorem test_CT13_bvc : let t := after (start .w8 [0x50, 0xFA]);
    t.pc = 0x5FC := by decide +kernel
theorem test_CT14_bvs : let t := after ({ start .w8 [0x70, 0x01] with p := 0x70 });
    t.pc = 0x603 := by decide +kernel
theorem test_CT15_bne_w16 : let t := after (start .w16 [0xD0, 0xFFFD]);
    t.pc = 0x5FF := by decide +kernel
theorem test_CT17_brk : let t := after (start .w8 [0x00]);
    t.status = .halted .brk 0x600 ∧ t.pc = 0x601 ∧ t.p = 0x30 ∧
    t.trace = [.onHalt 0x600 .brk, .onMemoryWrite 0xFE 0] := by decide +kernel
theorem test_CT18_nop : let t := after (start .w8 [0xEA]);
    t.pc = 0x601 ∧ t.p = 0x30 := by decide +kernel
theorem test_SF1_pha : let t := after ({ start .w8 [0x48] with a := 0x42 });
    t.read 0x1FF = 0x42 ∧ t.sp = 0xFE := by decide +kernel
theorem test_SF2_pha_wraps : let t := after ({ start .w8 [0x48] with a := 0x42, sp := 0x0 });
    t.read 0x100 = 0x42 ∧ t.sp = 0xFF ∧
    t.trace = [.warning .push, .onMemoryWrite 0x100 0x42, .onMemoryWrite 0xFE 0] := by decide +kernel
theorem test_SF8_php : let t := after ({ start .w8 [0x08] with p := 0x0 });
    t.read 0x1FF = 0x30 ∧ t.sp = 0xFE := by decide +kernel
theorem test_SF5_pla_wraps : let t := after (start .w8 [0x68] [(0x100, 0x80)]);
    t.sp = 0 ∧ t.a = 0x80 ∧ t.p = 0xB0 ∧ t.trace = [.warning .pop, .onMemoryWrite 0xFE 0] := by decide +kernel
theorem test_SF10_plp : let t := after ({ start .w8 [0x28] [(0x1FF, 0xC3)] with sp := 0xFE });
    t.p = 0xF3 ∧ t.sp = 0xFF := by decide +kernel
theorem test_SF3_pha_w16 : let t := after ({ start .w16 [0x48] with a := 0x7 });
    t.read 0x100FF = 0x7 ∧ t.sp = 0xFE := by decide +kernel
theorem test_SF11_clc : let t := after ({ start .w8 [0x18] with p := 0x31 });
    t.p = 0x30 := by decide +kernel
theorem test_SF12_sec : let t := after (start .w8 [0x38]);
    t.p = 0x31 := by decide +kernel
theorem test_SF13_cld : let t := after ({ start .w8 [0xD8] with p := 0x38 });
    t.p = 0x30 := by decide +kernel
theorem test_SF14_sed : let t := after (start .w8 [0xF8]);
    t.p = 0x38 := by decide +kernel
theorem test_SF15_clv : let t := after ({ start .w8 [0xB8] with p := 0x70 });
    t.p = 0x30 := by decide +kernel
theorem test_SF16_cli : let t := after (start .w8 [0x58]);
    t.status = .halted .unimplementedFeature 0x600 ∧ t.pc = 0x601 ∧ t.p = 0x30 := by decide +kernel
theorem test_SF17_sei : let t := after (start .w8 [0x78]);
    t.status = .halted .unimplementedFeature 0x600 ∧ t.pc = 0x601 ∧ t.p = 0x30 := by decide +kernel
theorem test_H2_unknown : let t := after (start .w8 [0x02]);
    t.status = .halted .unknownOpcode 0x600 ∧ t.pc = 0x601 := by decide +kernel
theorem test_H3_unknown_w16 : let t := after (start .w16 [0x100]);
    t.status = .halted .unknownOpcode 0x600 := by decide +kernel

/-- H4: a step while Halted is refused. -/
theorem test_H4_halted : (match step { start .w8 [0xEA] with status := .halted .brk 0x600 } with
    | .refused .halted => true | _ => false) = true := by decide

/-- The word the host places is the next instruction fetched, from the reset state. -/
theorem test_withFetchWord : (State.reset.withFetchWord 24 0x123400).read 0x602 = 0x12 ∧
    (State.reset.withFetchWord 16 0x80A9).read 0x601 = 0x80 ∧
    (after { State.reset.withFetchWord 16 0x80A9 with draws := [0] }).a = 0x80 := by decide +kernel

/-- The text the disassembler shows for an instruction at 0x600 reassembles there to its cells (46_disassembler R266). -/
def reassembles (w : Width) (i : Instr) : Bool :=
  encodeCode w (fun _ => none) 0x600 (instrText w 0x600 (some i)) == some i.encode

/-- 46_disassembler R266: every row of the opcode table at dw = 8, and the rows INC to LDY at dw = 16, reassemble with
operand cells 0x10 and 0x12, but for the branches, which take a label only (45_assembler R234; 95_test_vectors AS26; log 17). -/
theorem test_R266_reassembles : ∀ p ∈ [(Width.w8, opcodeTable), (Width.w16, opcodeRowsIncLdy)], ∀ r ∈ p.2,
    (match decode [p.1.cell r.opcode, 0x10, 0x12] with
      | .ok (i, _) => reassembles p.1 i
      | .error _ => false) = decide (r.mode ≠ .rel) := by decide +kernel

/-- 46_disassembler R266 at dw = 32: an absolute text selects zero page, where the mnemonic has it. -/
theorem test_R266_w32 : encodeCode .w32 (fun _ => none) 0x600 (instrText .w32 0x600 (some (.ldaAbs 0x10 0))) =
      some (Instr.ldaZp 0x10).encode ∧ reassembles .w32 (.jmpAbs 0x10 0) = true := by decide +kernel

/-- 45_assembler R235, R236 at dw = 32: the high limb is 0, also of a label at AM + 1 (R221; log 16). -/
theorem test_label_past_the_top_w32 :
    (match assembleText .w32 0x600 "*=$FFFFFFFF\nNOP\nL:\n*=$600\nJMP L\nLDA #>L".toList with
    | .ok prog => decide (prog.labels = [(['L'], 0x100000000)] ∧
        prog.cells.map (·.2) = [0xEA, 0x4C, 0, 0, 0xA9, 0, 0])
    | .error _ => false) = true := by decide +kernel

/-! Hypotheses that can be met. For every statement of Certificates/Slice0 with hypotheses, states and operands that meet
them together; a statement with several clauses has a witness for each, at boundary values. -/

/-- The outcome is a next state. -/
def isNext (o : Host.Outcome State Fault Refusal) : Bool :=
  match o with
  | .next _ => true
  | .fault _ => false
  | .refused _ => false

/-- The next state an instruction gives. -/
def ran (i : Instr) (s : State) : State :=
  match exec i s with
  | .next t => t
  | .fault _ => s
  | .refused _ => s

theorem step_after {s : State} (h : isNext (step s) = true) : step s = .next (after s) := by
  unfold after
  cases hs : step s <;> simp_all [isNext]

theorem exec_ran {i : Instr} {s : State} (h : isNext (exec i s) = true) : exec i s = .next (ran i s) := by
  unfold ran
  cases hs : exec i s <;> simp_all [isNext]

/-- Every register and cell 0, and SP 0. -/
def zero (w : Width) : State := { start w [] with sp := 0, p := 0x30 }

/-- Every register at the top of its range, PC and ORIGIN at AM, cells 0xFE, 0xFF and AM at DM. -/
def top (w : Width) : State :=
  { (((State.launch w (w.addrWord w.addrMask) [0xFF] 0).poke 0xFE (w.cell w.dataMask)).poke 0xFF
      (w.cell w.dataMask)).poke w.addrMask (w.cell w.dataMask) with
    a := w.cell w.dataMask, x := w.cell w.dataMask, y := w.cell w.dataMask, p := w.cell w.dataMask,
    sp := w.cell w.dataMask }

theorem wf_zero (w : Width) : (zero w).wf := by cases w <;> decide +kernel
theorem wf_top (w : Width) : (top w).wf := by cases w <;> decide +kernel

theorem witness_ResetGivesTheStatedState :
    ((top .w8).origin.toNat ≤ Width.addrMask .w8 ∧ (top .w8).running = false) ∧
    ((top .w32).origin.toNat ≤ Width.addrMask .w32 ∧ (top .w32).running = false) := by decide +kernel

theorem witness_StepKeepsTheStateInRange : (zero .w8).wf ∧ step (zero .w8) = .next (after (zero .w8)) :=
  ⟨wf_zero _, step_after (by decide +kernel)⟩

theorem witness_StepKeepsTheBreakBitsSet :
    (zero .w8).wf ∧ (zero .w8).breakBitsSet ∧ step (zero .w8) = .next (after (zero .w8)) :=
  ⟨wf_zero _, by decide +kernel, step_after (by decide +kernel)⟩

theorem witness_HostOperationsKeepTheStateInRange :
    { top .w8 with labels := [(['A'], 1), (['B'], 1)] }.wf ∧
    { top .w8 with labels := [(['A'], 1), (['B'], 1)] }.labelsUnique := by decide +kernel

theorem witness_ConfigureGivesTheLaunchState :
    ((top .w8).running = false ∧ (∀ n ∈ [0, 7, 9, 15, 17, 31, 33, 64], n ≠ 8 ∧ n ≠ 16 ∧ n ≠ 32)) ∧
    (top .w8).origin.toNat ≤ Width.addrMask .w8 ∧ (top .w8).origin.toNat ≤ Width.addrMask .w16 ∧
    (top .w32).running = false ∧ (top .w32).origin.toNat ≤ Width.addrMask .w32 := by decide +kernel

theorem witness_DecodeAndEncodeAgree :
    decode [0xA9, 0x80, 0x12] = .ok (.ldaImm 0x80, [0x12]) ∧ decode [0x00] = .ok (.brk, []) := ⟨rfl, rfl⟩

theorem witness_OnlyTheTableOpcodesDecode : 0 < 16 ∧ 15 < 16 ∧ 0x100 ≤ (0x100 : Word).toNat ∧
    0x100 ≤ (0xFFFFFFFF : Word).toNat := by decide

theorem witness_StepRunsTheDecodedInstruction :
    (start .w8 [0xA9, 0x80]).status = .ready ∧
    decode (start .w8 [0xA9, 0x80]).refresh.fetchCells = .ok (.ldaImm 0x80, [0x00]) ∧
    decode { start .w8 [] with pc := 0xFFFF }.refresh.fetchCells = .ok (.brk, [0x00, 0x00]) := ⟨rfl, rfl, rfl⟩

/-- At 0x600, and across the end of the address space. -/
theorem witness_StepRunsTheInstructionInMemory : ∀ s ∈
      [start .w8 [0x4C, 0x34, 0x12], { start .w8 [] [(0xFFFF, 0x4C), (0, 0x34), (1, 0x12)] with pc := 0xFFFF }],
    s.wf ∧ s.status = .ready ∧ (Instr.jmpAbs 0x34 0x12).wf s.width = true ∧
    (∀ (k : Nat) (c : Word), (Instr.jmpAbs 0x34 0x12).encode[k]? = some c →
      s.width.addr (s.pc.toNat + k) ≠ 0xFE ∧ s.read (s.width.addr (s.pc.toNat + k)) = c) := by
  have all : ∀ s ∈
      [start .w8 [0x4C, 0x34, 0x12], { start .w8 [] [(0xFFFF, 0x4C), (0, 0x34), (1, 0x12)] with pc := 0xFFFF }],
      s.wf ∧ s.status = .ready ∧ (Instr.jmpAbs 0x34 0x12).wf s.width = true ∧
      (Instr.jmpAbs 0x34 0x12).encode = [0x4C, 0x34, 0x12] ∧
      ∀ k < 3, s.width.addr (s.pc.toNat + k) ≠ 0xFE ∧
        some (s.read (s.width.addr (s.pc.toNat + k))) = ([0x4C, 0x34, 0x12] : List Word)[k]? := by decide +kernel
  intro s hs
  obtain ⟨h1, h2, h3, he, h4⟩ := all s hs
  refine ⟨h1, h2, h3, fun k c hc => ?_⟩
  rw [he] at hc
  obtain ⟨hk, -⟩ := List.getElem?_eq_some_iff.mp hc
  obtain ⟨h5, h6⟩ := h4 k hk
  exact ⟨h5, Option.some.inj (h6.trans hc)⟩

theorem witness_StepRefreshesTheRandomCellFirst :
    (zero .w8).wf ∧ step (zero .w8) = .next (after (zero .w8)) ∧ (top .w32).wf :=
  ⟨wf_zero _, step_after (by decide +kernel), wf_top _⟩

theorem witness_UnknownOpcodeHalts : ∀ s ∈ [start .w8 [0x02], start .w8 [0xFF], start .w16 [0x100], top .w32],
    s.wf ∧ s.status = .ready ∧ lookupOpcode (s.refresh.read s.pc.toNat).toNat = none := by decide +kernel

theorem witness_HaltedCoreRefusesToStep :
    { zero .w8 with status := .halted .brk 0x600 }.status = .halted .brk 0x600 ∧
    { zero .w8 with status := .halted .brk 0x600 }.running = false := by decide

/-- Ready after NOP, and a halt of each reason. -/
theorem witness_HaltsReportTheirAddress :
    (∀ s ∈ [start .w8 [0xEA], start .w8 [0x00], start .w8 [0x58], start .w8 [0x4C, 0x00, 0x00], start .w8 [0x02]],
      s.wf ∧ step s = .next (after s)) ∧
    (after (start .w8 [0xEA])).status = .ready ∧ (after (start .w8 [0x00])).status = .halted .brk 0x600 ∧
    (after (start .w8 [0x58])).status = .halted .unimplementedFeature 0x600 ∧
    (after (start .w8 [0x4C, 0x00, 0x00])).status = .halted .pcZero 0 ∧
    (after (start .w8 [0x02])).status = .halted .unknownOpcode 0x600 := by
  refine ⟨fun s hs => ?_, by decide +kernel⟩
  have all : ∀ s ∈
      [start .w8 [0xEA], start .w8 [0x00], start .w8 [0x58], start .w8 [0x4C, 0x00, 0x00], start .w8 [0x02]],
      s.wf ∧ isNext (step s) = true := by decide +kernel
  exact ⟨(all s hs).1, step_after (all s hs).2⟩

theorem witness_EffectiveAddresses :
    (top .w8).wf ∧ Width.fits .w8 0xFF = true ∧ (top .w16).wf ∧ Width.fits .w16 0xFFFF = true ∧
    (top .w32).wf ∧ Width.fits .w32 0xFFFFFFFF = true ∧ Width.fits .w8 0 = true := by decide +kernel

theorem witness_EffectiveAddressesStayInTheAddressSpace :
    (top .w8).wf ∧ (Instr.ldaZp 0xFF).wf .w8 = true ∧ (Instr.ldaZp 0xFF).operand = .mem (.zp 0xFF) ∧
    (MemOperand.zp 0xFF).mode = .zp ∧ (MemOperand.zpx 0xFF).mode = .zpx ∧ (MemOperand.zpy 0xFF).mode = .zpy ∧
    (Instr.ldaAbsx 0xFF 0xFF).wf .w8 = true ∧ (Instr.ldaAbsx 0xFF 0xFF).operand = .mem (.absx 0xFF 0xFF) := by
  decide +kernel

theorem witness_WordsAreLittleEndianPairs :
    (Width.w8 ≠ .w32 ∧ Width.fits .w8 0xFF = true) ∧ (Width.w16 ≠ .w32 ∧ Width.fits .w16 0xFFFF = true) ∧
    0xFFFF ≤ Width.addrMask .w8 ∧ 0xFFFFFFFF ≤ Width.addrMask .w32 := by decide

theorem witness_StoreWritesOneCellAndEmits :
    (top .w8).wf ∧ 0xFFFF ≤ Width.addrMask .w8 ∧ 0xFE ≤ Width.addrMask .w8 ∧
    (top .w16).wf ∧ 0xFFFFFFFF ≤ Width.addrMask .w16 := by decide +kernel

theorem witness_LoadsSetTheRegisterAndNZ : (top .w8).wf ∧
    ((Instr.ldaImm 0xFF).wf .w8 = true ∧ (Instr.ldaImm 0xFF).mnemonic = .lda) ∧
    ((Instr.ldxAbsy 0xFF 0xFF).wf .w8 = true ∧ (Instr.ldxAbsy 0xFF 0xFF).mnemonic = .ldx) ∧
    ((Instr.ldyZpx 0).wf .w8 = true ∧ (Instr.ldyZpx 0).mnemonic = .ldy) := by decide +kernel

theorem witness_StoresWriteTheRegister : (top .w8).wf ∧
    ((Instr.staIndy 0xFF).wf .w8 = true ∧ (Instr.staIndy 0xFF).mnemonic = .sta) ∧
    ((Instr.stxZpy 0xFF).wf .w8 = true ∧ (Instr.stxZpy 0xFF).mnemonic = .stx) ∧
    ((Instr.styAbs 0xFF 0xFF).wf .w8 = true ∧ (Instr.styAbs 0xFF 0xFF).mnemonic = .sty) := by decide +kernel

theorem witness_TransfersCopyARegister (w : Width) : (zero w).wf ∧ (top w).wf := ⟨wf_zero w, wf_top w⟩

theorem witness_BinaryAdcAddsWithCarry : (zero .w8).wf ∧ (zero .w8).flagD = false ∧
    (Instr.adcImm 0xFF).wf .w8 = true ∧ (Instr.adcImm 0xFF).mnemonic = .adc ∧
    (zero .w32).wf ∧ (zero .w32).flagD = false ∧ (Instr.adcIndx 0).wf .w32 = true := by decide +kernel

theorem witness_BinarySbcSubtractsWithBorrow : (zero .w8).wf ∧ (zero .w8).flagD = false ∧
    (Instr.sbcImm 0xFF).wf .w8 = true ∧ (Instr.sbcImm 0xFF).mnemonic = .sbc ∧
    (zero .w16).wf ∧ (zero .w16).flagD = false ∧ (Instr.sbcAbsy 0xFFFF 0xFFFF).wf .w16 = true := by decide +kernel

theorem witness_OverflowIsSignedOverflow : Width.fits .w8 0xFF = true ∧ Width.fits .w8 0x80 = true ∧
    Width.fits .w32 0x80000000 = true := by decide

/-- Operands with digits above 9; 99 and 99; 0 and 0. -/
theorem witness_DecimalModeAddsBcdDigits :
    ((top .w8).wf ∧ (top .w8).width = .w8 ∧ (top .w8).flagD = true ∧
      (Instr.adcImm 0xFF).wf .w8 = true ∧ (Instr.adcImm 0xFF).mnemonic = .adc ∧
      (Instr.sbcIndy 0xFF).wf .w8 = true ∧ (Instr.sbcIndy 0xFF).mnemonic = .sbc) ∧
    ({ zero .w8 with a := 0x99, p := 0x39 }.wf ∧ { zero .w8 with a := 0x99, p := 0x39 }.flagD = true ∧
      (0x99 : Word).toNat = 99 / 10 * 16 + 99 % 10 ∧
      (({ zero .w8 with a := 0x99, p := 0x39 }.operandValue (Instr.adcImm 0x99).operand).map BitVec.toNat) =
        some (99 / 10 * 16 + 99 % 10) ∧
      (Instr.adcImm 0x99).wf .w8 = true ∧ (Instr.adcImm 0x99).mnemonic = .adc) ∧
    ({ zero .w8 with p := 0x38 }.wf ∧ { zero .w8 with p := 0x38 }.flagD = true ∧
      (({ zero .w8 with p := 0x38 }.operandValue (Instr.sbcZp 0x10).operand).map BitVec.toNat) =
        some (0 / 10 * 16 + 0 % 10) ∧
      (Instr.sbcZp 0x10).wf .w8 = true ∧ (Instr.sbcZp 0x10).mnemonic = .sbc) := by decide +kernel

theorem witness_WideDecimalFollowsTheOpenParameter :
    ((top .w16).wf ∧ (top .w16).width ≠ .w8 ∧ (top .w16).flagD = true ∧ (Instr.adcImm 0xFFFF).wf .w16 = true ∧
      (Instr.adcImm 0xFFFF).mnemonic = .adc) ∧
    ((top .w32).wf ∧ (top .w32).width ≠ .w8 ∧ (top .w32).flagD = true ∧ (Instr.sbcZp 0xFFFFFFFF).wf .w32 = true ∧
      (Instr.sbcZp 0xFFFFFFFF).mnemonic = .sbc) := by decide +kernel

/-- Decimal mode with digits that are no BCD digits. -/
theorem witness_AdcAndSbcCompleteInEveryMode : (top .w8).wf ∧ (top .w8).flagD = true ∧
    (Instr.adcImm 0xFF).wf .w8 = true ∧ (Instr.adcImm 0xFF).mnemonic = .adc ∧
    (Instr.sbcIndy 0xFF).wf .w8 = true ∧ (Instr.sbcIndy 0xFF).mnemonic = .sbc := by decide +kernel

theorem witness_LogicCombinesWithA : (top .w8).wf ∧
    ((Instr.andImm 0xFF).wf .w8 = true ∧ (Instr.andImm 0xFF).mnemonic = .and) ∧
    ((Instr.oraIndx 0xFF).wf .w8 = true ∧ (Instr.oraIndx 0xFF).mnemonic = .ora) ∧
    ((Instr.eorAbs 0 0).wf .w8 = true ∧ (Instr.eorAbs 0 0).mnemonic = .eor) := by decide +kernel

theorem witness_ComparesSetOnlyFlags : (top .w8).wf ∧
    ((Instr.cmpIndy 0xFF).wf .w8 = true ∧ (Instr.cmpIndy 0xFF).mnemonic = .cmp ∧ (0xFF : Word) = (top .w8).a) ∧
    ((Instr.cpxImm 0).wf .w8 = true ∧ (Instr.cpxImm 0).mnemonic = .cpx ∧ (0xFF : Word) = (top .w8).x) ∧
    ((Instr.cpyAbs 0xFF 0).wf .w8 = true ∧ (Instr.cpyAbs 0xFF 0).mnemonic = .cpy ∧ (0xFF : Word) = (top .w8).y) := by
  decide +kernel

theorem witness_BitTestsWithoutChangingA : (top .w8).wf ∧ (Instr.bitZp 0xFF).wf .w8 = true ∧
    (Instr.bitZp 0xFF).mnemonic = .bit := by decide +kernel

theorem witness_IncAndDecRewriteOneCell : (top .w8).wf ∧
    ((Instr.incZp 0xFE).wf .w8 = true ∧ (Instr.incZp 0xFE).mnemonic = .inc ∧ (1 : Int) = 1) ∧
    ((Instr.decAbsx 0xFF 0xFF).wf .w8 = true ∧ (Instr.decAbsx 0xFF 0xFF).mnemonic = .dec ∧ (-1 : Int) = -1) := by
  decide +kernel

theorem witness_IndexCountsWrap (w : Width) : (zero w).wf ∧ (top w).wf := ⟨wf_zero w, wf_top w⟩

theorem witness_ShiftsAndRotates : (top .w8).wf ∧
    (∀ i ∈ [Instr.aslAcc, .lsrAcc, .rolAcc, .rorAcc], i.operand = .single ∧
      (i.mnemonic = .asl ∨ i.mnemonic = .lsr ∨ i.mnemonic = .rol ∨ i.mnemonic = .ror)) ∧
    (∀ i ∈ [Instr.aslZp 0xFF, .lsrZp 0xFF, .rolZp 0xFF, .rorZp 0xFF], i.wf .w8 = true ∧ i.operand = .mem (.zp 0xFF) ∧
      (i.mnemonic = .asl ∨ i.mnemonic = .lsr ∨ i.mnemonic = .rol ∨ i.mnemonic = .ror)) := by decide +kernel

theorem witness_JumpsSetPc (w : Width) : (zero w).wf ∧ (top w).wf := ⟨wf_zero w, wf_top w⟩
theorem witness_JsrPushesTheReturnAddress (w : Width) : (zero w).wf ∧ (top w).wf := ⟨wf_zero w, wf_top w⟩
theorem witness_RtsReturnsPastThePoppedWord (w : Width) : (zero w).wf ∧ (top w).wf := ⟨wf_zero w, wf_top w⟩
theorem witness_RtiRestoresPAndPc (w : Width) : (zero w).wf ∧ (top w).wf := ⟨wf_zero w, wf_top w⟩

theorem witness_RtsUndoesJsr :
    ((zero .w8).wf ∧ exec (.jsrAbs 0x34 0x12) (zero .w8) = .next (ran (.jsrAbs 0x34 0x12) (zero .w8))) ∧
    ((top .w32).wf ∧ exec (.jsrAbs 0 0) (top .w32) = .next (ran (.jsrAbs 0 0) (top .w32))) :=
  ⟨⟨wf_zero _, exec_ran (by decide +kernel)⟩, wf_top _, exec_ran (by decide +kernel)⟩

/-- Every branch, taken and not taken. -/
theorem witness_BranchesAddTheSignedOffset :
    ∀ i ∈ [Instr.bcc 0x80, .bcs 0x80, .beq 0x80, .bne 0x80, .bmi 0x80, .bpl 0x80, .bvc 0x80, .bvs 0x80],
      i.wf .w8 = true ∧ i.operand = .rel 0x80 ∧
      ((zero .w8).wf ∧ (branchTaken i.mnemonic (zero .w8)).isSome ∧ (top .w8).wf ∧
        branchTaken i.mnemonic (top .w8) = (branchTaken i.mnemonic (zero .w8)).map (!·)) := by decide +kernel

theorem witness_BrkCliAndSeiHalt : (zero .w8).wf ∧ (top .w8).wf ∧
    (Instr.brk = .brk ∧ HaltReason.brk = .brk) ∧
    (Instr.cli = .cli ∧ HaltReason.unimplementedFeature = .unimplementedFeature) ∧
    (Instr.sei = .sei ∧ HaltReason.unimplementedFeature = .unimplementedFeature) := by decide +kernel

theorem witness_PushesWriteThenDecrement (w : Width) : (zero w).wf ∧ (top w).wf ∧
    (Instr.pha = .pha ∧ (zero w).a = (zero w).a) ∧ (Instr.php = .php ∧ (top w).p ||| 0x30 = (top w).p ||| 0x30) :=
  ⟨wf_zero w, wf_top w, ⟨rfl, rfl⟩, rfl, rfl⟩

theorem witness_PullsIncrementThenRead (w : Width) : (zero w).wf ∧ (top w).wf := ⟨wf_zero w, wf_top w⟩

theorem witness_PullUndoesPush : (zero .w8).wf ∧
    (exec .pha (zero .w8) = .next (ran .pha (zero .w8)) ∧
      exec .pla (ran .pha (zero .w8)) = .next (ran .pla (ran .pha (zero .w8)))) ∧
    (exec .php (zero .w8) = .next (ran .php (zero .w8)) ∧
      exec .plp (ran .php (zero .w8)) = .next (ran .plp (ran .php (zero .w8)))) :=
  ⟨wf_zero _, ⟨exec_ran (by decide +kernel), exec_ran (by decide +kernel)⟩, exec_ran (by decide +kernel),
    exec_ran (by decide +kernel)⟩

theorem witness_FlagInstructionsWriteOneFlag (w : Width) : (zero w).wf ∧ (top w).wf := ⟨wf_zero w, wf_top w⟩

/-- An instruction that changes each register. -/
theorem witness_RegistersChangeOnlyByTheirInstructions : (zero .w8).wf ∧
    (∀ i ∈ [Instr.ldaImm 0xFF, .ldxImm 0xFF, .ldyImm 0xFF, .pha, .jmpAbs 0 0], isNext (exec i (zero .w8)) = true) ∧
    (ran (.ldaImm 0xFF) (zero .w8)).a ≠ (zero .w8).a ∧ (ran (.ldxImm 0xFF) (zero .w8)).x ≠ (zero .w8).x ∧
    (ran (.ldyImm 0xFF) (zero .w8)).y ≠ (zero .w8).y ∧ (ran .pha (zero .w8)).sp ≠ (zero .w8).sp ∧
    (ran (.jmpAbs 0 0) (zero .w8)).pc ≠ (zero .w8).pc := by decide +kernel

/-- An instruction that changes each flag. -/
theorem witness_FlagsChangeOnlyByTheirInstructions : (zero .w8).wf ∧ (top .w8).wf ∧
    (∀ i ∈ [Instr.sed, .sec, .plp], isNext (exec i (zero .w8)) = true) ∧ isNext (exec .clv (top .w8)) = true ∧
    (ran .clv (top .w8)).flagV ≠ (top .w8).flagV ∧ (ran .sed (zero .w8)).flagD ≠ (zero .w8).flagD ∧
    (ran .sec (zero .w8)).flagC ≠ (zero .w8).flagC ∧
    (ran .plp { zero .w8 with p := 0x34 }).flagI ≠ { zero .w8 with p := 0x34 }.flagI := by decide +kernel

theorem witness_MemoryAndStatusChangeOnlyByTheirInstructions : (top .w8).wf ∧ (Instr.staZp 0).wf .w8 = true ∧
    isNext (exec (.staZp 0) (top .w8)) = true ∧ (ran (.staZp 0) (top .w8)).read 0 ≠ (top .w8).read 0 ∧
    isNext (exec .brk (top .w8)) = true ∧ (ran .brk (top .w8)).status ≠ (top .w8).status := by decide +kernel

theorem witness_RunModeIsIteratedStep :
    (∃ t, Host.Core.run Sys2Proof.core 1 (zero .w8) = .next t) ∧
    step (zero .w8) = .next (after (zero .w8)) ∧ (zero .w8).status = .ready ∧ (zero .w8).running = false ∧
    { zero .w8 with running := true }.running = true ∧
    { zero .w8 with status := .halted .brk 0x600 }.status ≠ .ready := by
  have h : step (zero .w8) = .next (after (zero .w8)) := step_after (by decide +kernel)
  have hc : Sys2Proof.core.step (zero .w8) = .next (after (zero .w8)) := h
  refine ⟨⟨after (zero .w8), ?_⟩, h, by decide +kernel, by decide +kernel, rfl, by decide⟩
  show (match Sys2Proof.core.step (zero .w8) with
    | .next s' => Host.Core.run Sys2Proof.core 0 s'
    | .fault r => .fault r
    | .refused r => .refused r) = _
  rw [hc]; rfl

theorem witness_RunningRefusesHostWrites : { zero .w8 with running := true }.running = true ∧
    (∃ w, HostOp.configure 16 = .configure w) ∧ (∃ a v, HostOp.writeMem 0 0 = .writeMem a v) :=
  ⟨rfl, ⟨_, rfl⟩, _, _, rfl⟩

theorem witness_KeyInputStoresTheKeycode (w : Width) : (zero w).wf ∧ (top w).wf := ⟨wf_zero w, wf_top w⟩

theorem witness_GotoSetsPcOrFails :
    let s := { zero .w8 with labels := [(['A'], 0xFFFF), (['B'], 0)] }
    s.running = false ∧ 0xFFFF ≤ s.width.addrMask ∧ 0 ≤ s.width.addrMask ∧ s.width.addrMask < 0x10000 ∧
    s.labelsUnique ∧ (['A'], 0xFFFF) ∈ s.labels ∧ ['C'] ∉ s.labels.map (·.1) := by decide +kernel

/-- The assembly of a text on the 8-bit launch state fails with `e`. -/
def failsWith (text : String) (e : AsmError) : Bool :=
  match hostStep (.assemble text.toList) (some (zero .w8)) with
  | (some _, .error (.assembly e')) => decide (e = e')
  | _ => false

/-- Each kind of assembly error. -/
theorem witness_FailedAssemblyCommitsNothing : (zero .w8).running = false ∧
    failsWith "A: NOP\nA: NOP" (.labelConflict 2 ['A']) = true ∧
    failsWith "FOO" (.assembly 1 ['F', 'O', 'O']) = true ∧
    failsWith "* = $FFFF\nNOP" (.addressOutOfRange 2 ['N', 'O', 'P']) = true ∧
    failsWith "" .emptyProgram = true := by decide +kernel

theorem witness_SuccessfulAssemblyCommitsTheProgram : (zero .w8).wf ∧ (zero .w8).running = false ∧
    assembleText .w8 0x600 "NOP".toList =
      .ok { labels := [], cells := [(0x600, 0xEA), (0x601, 0)], codeLength := 1, cursor := 0x601 } :=
  ⟨wf_zero _, by decide +kernel, rfl⟩

theorem witness_PassesAgreeOnLengths :
    encodeCode .w8 (lookupLabel [(['L'], 0x600)]) 0x600 "BNE L".toList = some [0xD0, 0xFE] := by decide +kernel

/-- The two ends of the reach at `dw = 8`, from 0x600. -/
theorem witness_AssembledBranchReachesItsTarget :
    let s := { zero .w8 with pc := 0x602 }
    s.wf ∧ 0x600 ≤ s.width.addrMask ∧ s.pc.toNat = (0x600 + 2) % 2 ^ s.width.aw ∧
    (Width.signBit .w8 : Int) = 128 ∧ ((0x582 : Int) - (0x600 + 2) = -128 ∧ (0x681 : Int) - (0x600 + 2) = 128 - 1) ∧
    (OperandText.target 0x582).cells s.width 0x600 = [0x80] ∧
    (OperandText.target 0x681).cells s.width 0x600 = [0x7F] ∧
    (Instr.bne 0x80).operand = .rel 0x80 ∧ (Instr.bne 0x7F).operand = .rel 0x7F ∧ branchTaken .bne s = some true ∧
    isNext (exec (.bne 0x80) s) = true ∧ isNext (exec (.bne 0x7F) s) = true := by decide +kernel

theorem witness_DisassembledTargetIsTheRuntimeTarget :
    let s := { zero .w8 with pc := 0x602 }
    s.wf ∧ (Instr.bne 0x80).wf s.width = true ∧ s.pc.toNat = (0x600 + 2) % 2 ^ s.width.aw ∧
    (Instr.bne 0x80).operand = .rel 0x80 ∧ branchTaken (Instr.bne 0x80).mnemonic s = some true ∧
    isNext (exec (.bne 0x80) s) = true := by decide +kernel

end Sys2Proof.Tests
end

section
/-! PROOFS. What the decoder reads is made of the cells it is given, every effect keeps the state in range, and so
does every step. -/

namespace Sys2Proof

/-- The cells of an operand, lowest address first (30_encoding R81). -/
def Operand.cells : Operand → List Word
  | .single => []
  | .imm v | .rel v | .mem (.zp v) | .mem (.zpx v) | .mem (.zpy v) | .mem (.indx v) | .mem (.indy v) => [v]
  | .ind lo hi | .mem (.abs lo hi) | .mem (.absx lo hi) | .mem (.absy lo hi) => [lo, hi]

theorem Instr.operandCells_eq_cells (i : Instr) : i.operandCells = i.operand.cells := by
  cases i <;> rfl

/-- Reading an operand splits the cells into the operand's own and the rest (30_encoding R81). -/
theorem takeOperand_cells {mode : Mode} {cs rest : List Word} {o : Operand}
    (h : takeOperand mode cs = some (o, rest)) : o.cells ++ rest = cs := by
  unfold takeOperand at h
  split at h <;> cases h <;> rfl

/-- An instruction built from parts has the operand it was built from. The split is by the operand's form and the
mnemonic, of which the table lacks most pairs. -/
theorem Instr.operand_of_ofParts {m : Mnemonic} {o : Operand} {i : Instr} (h : Instr.ofParts m o = some i) :
    i.operand = o := by
  cases o
  case mem o => cases o <;> cases m <;> cases h <;> rfl
  all_goals cases m <;> cases h <;> rfl

/-- Decoding reads the opcode cell, then the operand cells of the instruction, and leaves the rest. -/
theorem decode_cells {cs rest : List Word} {i : Instr} (h : decode cs = .ok (i, rest)) :
    ∃ op, cs = op :: (i.operandCells ++ rest) := by
  unfold decode at h
  split at h
  case h_1 => cases h
  case h_2 op cs =>
    split at h
    case h_1 => cases h
    case h_2 row _ =>
      split at h
      case h_1 => cases h
      case h_2 o r ho =>
        split at h
        case h_1 => cases h
        case h_2 j hj =>
          cases h
          exact ⟨op, by rw [i.operandCells_eq_cells, Instr.operand_of_ofParts hj, takeOperand_cells ho]⟩

/-- An instruction decoded from cell values is well-formed. -/
theorem decode_wf {w : Width} {cs rest : List Word} {i : Instr} (h : decode cs = .ok (i, rest))
    (hcs : ∀ c ∈ cs, w.fits c = true) : i.wf w = true := by
  obtain ⟨op, rfl⟩ := decode_cells h
  exact List.all_eq_true.2 fun c hc => hcs c (by simp [hc])

end Sys2Proof

namespace Sys2Proof.Machine

/-- The cells fetched from a state in range are cell values (30_encoding R84). -/
theorem State.wf.fits_fetchCells {s : State} (h : s.wf) : ∀ c ∈ s.fetchCells, s.width.fits c = true := by
  simp [State.fetchCells, h.fits_read]

/-- What is fetched from a state in range decodes to a well-formed instruction. -/
theorem State.wf.decode_fetchCells {s : State} (h : s.wf) {i : Instr} {rest : List Word}
    (hd : decode s.fetchCells = .ok (i, rest)) : i.wf s.width = true :=
  decode_wf hd h.fits_fetchCells

/-- The address of a well-formed instruction's operand lies in the address space. -/
theorem Instr.wf_address_lt {s : State} {i : Instr} (hi : i.wf s.width = true) :
    s.address i.operand < 2 ^ s.width.aw := by
  cases ho : i.operand
  case mem => exact Instr.wf_ea_lt hi ho
  all_goals exact s.width.pow_aw_pos

/-! The shared operations of the meanings keep the state in range. -/

theorem State.wf.applyAlu {s : State} (h : s.wf) (r : AluResult) : (s.applyAlu r).wf :=
  (((h.setC _).setV _).setA _).setNZ _

theorem State.wf.compare {s : State} (h : s.wf) (r m : Word) : (s.compare r m).wf :=
  (h.setC _).setNZ _

theorem State.wf.bitTest {s : State} (h : s.wf) (m : Word) : (bitTest s m).wf :=
  ((h.setN _).setV _).setZ _

theorem State.wf.branch {s : State} (h : s.wf) (c : Bool) (d : Word) : (branch s c d).wf := by
  unfold Machine.branch
  split_ifs
  · exact h.setPc _
  · exact h.setPc _
  · exact h

theorem State.wf.shiftEffect {s : State} (h : s.wf) (f : Width → Word → Bool → Word × Bool) {o : Operand}
    (ho : s.address o < 2 ^ s.width.aw) : (shiftEffect f o s).wf := by
  cases o
  case mem => exact ((h.setC _).store ho _).setNZ _
  all_goals exact ((h.setC _).setA _).setNZ _

theorem State.wf.jsr {s : State} (h : s.wf) (target : Nat) : (jsr s target).wf :=
  ((h.push _).push _).setPc _

theorem State.wf.rts {s : State} (h : s.wf) : (rts s).wf :=
  h.pop.pop.setPc _

theorem State.wf.rti {s : State} (h : s.wf) : (rti s).wf :=
  (h.pop.setP _).pop.pop.setPc _

/-- Every effect keeps the state in range, the address it may write being one of the address space. -/
theorem State.wf.effect {s : State} (h : s.wf) (m : Mnemonic) {o : Operand}
    (ho : s.address o < 2 ^ s.width.aw) : (effect m o s).wf := by
  cases m
  case lda | txa | tya | and | ora | eor => exact (h.setA _).setNZ _
  case ldx | tax | tsx | inx | dex => exact (h.setX _).setNZ _
  case ldy | tay | iny | dey => exact (h.setY _).setNZ _
  case sta | stx | sty => exact h.store ho _
  case inc | dec => exact (h.store ho _).setNZ _
  case asl | lsr | rol | ror => exact h.shiftEffect _ ho
  case adc | sbc => exact h.applyAlu _
  case cmp | cpx | cpy => exact h.compare _ _
  case bit => exact h.bitTest _
  case bcc | bcs | beq | bne | bmi | bpl | bvc | bvs => exact h.branch _ _
  case jmp => exact h.setPc _
  case jsr => exact h.jsr _
  case rts => exact h.rts
  case rti => exact h.rti
  case txs => exact h.setSp _
  case pha | php => exact h.push _
  case pla => exact (h.pop.setA _).setNZ _
  case plp => exact h.pop.setP _
  case clc | sec | cld | sed | clv => exact h.setFlag _ _
  case brk | cli | sei => exact h.halt _ _
  case nop => exact h

/-- Settles O3: the cells a step fetches are in range, so the instruction it decodes is well-formed and writes inside
the address space; refresh, the effect and the PC-zero check each keep the state in range. -/
theorem stepKeepsTheStateInRange : Obligations.StepKeepsTheStateInRange := by
  unfold Obligations.StepKeepsTheStateInRange
  intro s t hs hst
  rcases step_cases hst with ⟨-, ⟨e, -, rfl⟩ | ⟨i, rest, hd, rfl⟩⟩
  · exact hs.refresh.unknownOpcode
  · have hi : i.wf s.refresh.width = true := hs.refresh.decode_fetchCells hd
    have advanced : (s.refresh.advance i.length).wf := hs.refresh.advance _
    exact (advanced.effect _ (Instr.wf_address_lt hi)).pcZeroCheck

end Sys2Proof.Machine
end

section
/-! PROOFS. What each instruction may write: the registers, the bits of P and the cells, as one table per kind, and the
frame that says every effect stays inside its row. From it the tables of 10_state and the bits of P that stay set. -/

namespace Sys2Proof.Machine

/-- The registers an effect may write, P apart (10_state R22; 40_load_store_transfer R131). A shift or rotate writes A
in its single form alone (42_inc_dec_shift R170). -/
def writtenRegs (m : Mnemonic) (o : Operand) : List Reg :=
  match m with
  | .lda | .txa | .tya | .adc | .sbc | .and | .ora | .eor => [.a]
  | .ldx | .tax | .tsx | .inx | .dex => [.x]
  | .ldy | .tay | .iny | .dey => [.y]
  | .txs | .pha | .php | .plp => [.sp]
  | .pla => [.a, .sp]
  | .jsr | .rts | .rti => [.sp, .pc]
  | .jmp | .bcc | .bcs | .beq | .bne | .bmi | .bpl | .bvc | .bvs => [.pc]
  | .asl | .lsr | .rol | .ror =>
    match o with
    | .mem _ => []
    | .single | .imm _ | .ind _ _ | .rel _ => [.a]
  | .sta | .stx | .sty | .inc | .dec | .cmp | .cpx | .cpy | .bit | .clc | .sec | .cld | .sed | .clv | .brk | .cli
  | .sei | .nop => []

/-- The bits of P an effect may write (10_state R27: written by). -/
def writtenBits (w : Width) (m : Mnemonic) : List Nat :=
  match m with
  | .plp | .rti => List.range 32
  | .adc | .sbc => cznvBits w
  | .bit => [1, w.dw - 2, w.dw - 1]
  | .cmp | .cpx | .cpy | .asl | .lsr | .rol | .ror => [0, 1, w.dw - 1]
  | .clc | .sec => [0]
  | .cld | .sed => [3]
  | .clv => [w.dw - 2]
  | .lda | .ldx | .ldy | .tax | .tay | .txa | .tya | .tsx | .and | .ora | .eor | .inc | .dec | .inx | .iny | .dex
  | .dey | .pla => nzBits w
  | .sta | .stx | .sty | .txs | .pha | .php | .jmp | .jsr | .rts | .bcc | .bcs | .beq | .bne | .bmi | .bpl | .bvc
  | .bvs | .brk | .cli | .sei | .nop => []

/-- The cells an effect may write in the state `s` (20_memory R52, 10_state R33). -/
def writtenCells (m : Mnemonic) (o : Operand) (s : State) : List Nat :=
  match m with
  | .sta | .stx | .sty | .inc | .dec => [s.address o]
  | .asl | .lsr | .rol | .ror =>
    match o with
    | .mem mo => [s.ea mo]
    | .single | .imm _ | .ind _ _ | .rel _ => []
  | .pha | .php => [s.stackAddr]
  | .jsr => [s.stackAddr, (s.push (s.width.hi s.jsrReturn)).stackAddr]
  | _ => []

/-- A store and a `SetNZ` write different fields, so their order does not matter. -/
theorem State.setNZ_store (s : State) (a : Nat) (v r : Word) :
    (s.store a v).setNZ r = (s.setNZ r).store a v := by
  unfold State.store State.poke
  split <;> rfl

section Frames
variable {regs : List Reg} {bits cells : List Nat} {events : List Event} {s t : State}

/-- The frame of a write of A that ends in `SetNZ`. -/
theorem ChangesOnly.setA_setNZ (h : ChangesOnly regs bits cells events s t) (hw : t.wf) (v r : Word)
    (ha : Reg.a ∈ regs) (hb : nzBits s.width ⊆ bits) :
    ChangesOnly regs bits cells events s ((t.setA v).setNZ r) :=
  (h.setA v ha).setNZ (hw.setA v) r (hb (by simp [nzBits])) (hb (by simp [nzBits]))

/-- The frame of a store that ends in `SetNZ`; the address need not lie in the address space. -/
theorem ChangesOnly.store_setNZ (h : ChangesOnly regs bits cells events s t) (hw : t.wf) {a : Nat} (v r : Word)
    (ha : a ∈ cells) (hb : nzBits s.width ⊆ bits) :
    ChangesOnly regs bits cells (.onMemoryWrite a (s.width.cell v.toNat) :: events) s ((t.store a v).setNZ r) := by
  rw [State.setNZ_store]
  exact (h.setNZ hw r (hb (by simp [nzBits])) (hb (by simp [nzBits]))).store (hw.setNZ r) v ha

end Frames

/-- The four shifts and rotates have one frame: ASL's rows of the tables stand for all. -/
theorem shiftEffect_changesOnly {s : State} (h : s.wf) (f : Width → Word → Bool → Word × Bool) (o : Operand) :
    ∃ events, ChangesOnly (writtenRegs .asl o) (writtenBits s.width .asl) (writtenCells .asl o s) events s
      (shiftEffect f o s) := by
  have carried (c : Bool) {regs : List Reg} {cells : List Nat} :
      ChangesOnly regs (writtenBits s.width .asl) cells [] s (s.setC c) :=
    (ChangesOnly.refl s).setC h c (by simp [writtenBits])
  have nz : nzBits s.width ⊆ writtenBits s.width .asl := by simp [nzBits, writtenBits]
  cases o
  case mem mo => exact ⟨_, (carried _).store_setNZ (h.setC _) _ _ (List.mem_singleton_self _) nz⟩
  all_goals exact ⟨_, (carried _).setA_setNZ (h.setC _) _ _ (List.mem_singleton_self _) nz⟩

/-- A branch changes PC at most, whether taken or not. -/
theorem branch_changesOnly (s : State) (c : Bool) (d : Word) : ChangesOnly [.pc] [] [] [] s (branch s c d) := by
  have jumped (n : Nat) : ChangesOnly [.pc] [] [] [] s (s.setPc n) :=
    (ChangesOnly.refl s).setPc n (List.mem_singleton_self _)
  unfold branch
  split_ifs
  · exact jumped _
  · exact jumped _
  · exact ChangesOnly.refl s

/-- Every effect but a halt changes only what its rows of the three tables name. -/
theorem effect_changesOnly {s : State} (h : s.wf) {m : Mnemonic} (o : Operand) (hm : m ∉ [.brk, .cli, .sei]) :
    ∃ events, ChangesOnly (writtenRegs m o) (writtenBits s.width m) (writtenCells m o s) events s (effect m o s) := by
  have start {regs : List Reg} {bits cells : List Nat} : ChangesOnly regs bits cells [] s s := ChangesOnly.refl s
  have nz : nzBits s.width ⊆ nzBits s.width := List.Subset.refl _
  have z : 1 ∈ nzBits s.width := by simp [nzBits]
  have n : s.width.dw - 1 ∈ nzBits s.width := by simp [nzBits]
  cases m
  case lda | txa | tya | and | ora | eor => exact ⟨_, start.setA_setNZ h _ _ (by simp [writtenRegs]) nz⟩
  case ldx | tax | tsx | inx | dex => exact ⟨_, (start.setX _ (by simp [writtenRegs])).setNZ (h.setX _) _ z n⟩
  case ldy | tay | iny | dey => exact ⟨_, (start.setY _ (by simp [writtenRegs])).setNZ (h.setY _) _ z n⟩
  case sta | stx | sty => exact ⟨_, start.store h _ (by simp [writtenCells])⟩
  case inc | dec => exact ⟨_, start.store_setNZ h _ _ (by simp [writtenCells]) nz⟩
  case asl | lsr | rol | ror => exact shiftEffect_changesOnly h _ o
  case adc | sbc =>
    exact ⟨_, ((start.setC h _ (by simp [writtenBits, cznvBits])).setV (h.setC _) _
      (by simp [writtenBits, cznvBits])).setA_setNZ ((h.setC _).setV _) _ _ (by simp [writtenRegs])
      (by simp [nzBits, writtenBits, cznvBits])⟩
  case cmp | cpx | cpy =>
    exact ⟨_, (start.setC h _ (by simp [writtenBits])).setNZ (h.setC _) _ (by simp [writtenBits])
      (by simp [writtenBits])⟩
  case bit =>
    exact ⟨_, ((start.setN h _ (by simp [writtenBits])).setV (h.setN _) _ (by simp [writtenBits])).setZ
      ((h.setN _).setV _) _ (by simp [writtenBits])⟩
  case bcc | bcs | beq | bne | bmi | bpl | bvc | bvs => exact ⟨_, branch_changesOnly s _ _⟩
  case jmp => exact ⟨_, start.setPc _ (by simp [writtenRegs])⟩
  case jsr =>
    exact ⟨_, ((start.push h _ (by simp [writtenRegs]) (by simp [writtenCells])).push (h.push _) _
      (by simp [writtenRegs]) (by simp [writtenCells])).setPc _ (by simp [writtenRegs])⟩
  case rts =>
    exact ⟨_, ((start.popAdvance (by simp [writtenRegs])).popAdvance (by simp [writtenRegs])).setPc _
      (by simp [writtenRegs])⟩
  case rti =>
    exact ⟨_, ((((start.popAdvance (by simp [writtenRegs])).setP _ (by simp [writtenBits])).popAdvance
      (by simp [writtenRegs])).popAdvance (by simp [writtenRegs])).setPc _ (by simp [writtenRegs])⟩
  case txs => exact ⟨_, start.setSp _ (by simp [writtenRegs])⟩
  case pha | php => exact ⟨_, start.push h _ (by simp [writtenRegs]) (by simp [writtenCells])⟩
  case pla =>
    exact ⟨_, (start.popAdvance (by simp [writtenRegs])).setA_setNZ h.pop _ _ (by simp [writtenRegs]) nz⟩
  case plp => exact ⟨_, (start.popAdvance (by simp [writtenRegs])).setP _ (by simp [writtenBits])⟩
  case clc | sec => exact ⟨_, start.setC h _ (by simp [writtenBits])⟩
  case cld | sed => exact ⟨_, start.setD h _ (by simp [writtenBits])⟩
  case clv => exact ⟨_, start.setV h _ (by simp [writtenBits])⟩
  case brk | cli | sei => exact absurd hm (by simp)
  case nop => exact ⟨_, start⟩

/-- The three instructions that halt do nothing else (60_exceptions R286). -/
theorem effect_eq_halt {m : Mnemonic} (hm : m ∈ [.brk, .cli, .sei]) (o : Operand) (s : State) :
    ∃ reason, effect m o s = s.halt reason s.opcodeAddr := by
  simp only [List.mem_cons, List.not_mem_nil, or_false] at hm
  obtain rfl | rfl | rfl := hm <;> exact ⟨_, rfl⟩

theorem State.halt_reg (s : State) (reason : HaltReason) (pc : Word) (r : Reg) :
    (s.halt reason pc).reg r = s.reg r := by
  cases r <;> rfl

/-- A register outside its row keeps its value, under a halt too. -/
theorem effect_reg_of_not_mem {s : State} (h : s.wf) {m : Mnemonic} {o : Operand} {r : Reg}
    (hr : r ∉ writtenRegs m o) (hp : r ≠ .p) : (effect m o s).reg r = s.reg r := by
  by_cases hm : m ∈ [.brk, .cli, .sei]
  · obtain ⟨reason, he⟩ := effect_eq_halt hm o s
    rw [he, State.halt_reg]
  · obtain ⟨events, frame, -⟩ := effect_changesOnly h o hm
    exact frame r hr hp

/-- A bit of P outside its row keeps its value, under a halt too. -/
theorem effect_bit_of_not_mem {s : State} (h : s.wf) {m : Mnemonic} (o : Operand) {k : Nat}
    (hk : k ∉ writtenBits s.width m) : (effect m o s).p.getLsbD k = s.p.getLsbD k := by
  by_cases hm : m ∈ [.brk, .cli, .sei]
  · obtain ⟨reason, he⟩ := effect_eq_halt hm o s
    rw [he, State.halt_p]
  · obtain ⟨events, -, frame, -⟩ := effect_changesOnly h o hm
    exact frame k hk

/-- Which mnemonics may write which bit of P, the table read the other way (10_state R27: written by). -/
theorem mem_writtenBits {w : Width} {m : Mnemonic} {k : Nat} (h : k ∈ writtenBits w m) :
    m ∈ [.plp, .rti] ∨
      k = 0 ∧ m ∈ [.adc, .sbc, .cmp, .cpx, .cpy, .asl, .lsr, .rol, .ror, .clc, .sec] ∨
      k = 1 ∨ k = 3 ∧ m ∈ [.cld, .sed] ∨ k = w.dw - 2 ∧ m ∈ [.adc, .sbc, .bit, .clv] ∨ k = w.dw - 1 := by
  cases m <;> simp_all [writtenBits, nzBits, cznvBits]

/-- Which mnemonics may write which register, the table read the other way (10_state R22). -/
theorem mem_writtenRegs {m : Mnemonic} {o : Operand} {r : Reg} (h : r ∈ writtenRegs m o) :
    r = .a ∧ (m ∈ [.lda, .txa, .tya, .pla, .adc, .sbc, .and, .ora, .eor] ∨
        m ∈ [.asl, .lsr, .rol, .ror] ∧ ∀ mo, o ≠ .mem mo) ∨
      r = .x ∧ m ∈ [.ldx, .tax, .tsx, .inx, .dex] ∨
      r = .y ∧ m ∈ [.ldy, .tay, .iny, .dey] ∨
      r = .sp ∧ m ∈ [.txs, .pha, .php, .pla, .plp, .jsr, .rts, .rti] ∨
      r = .pc ∧ m ∈ [.jmp, .jsr, .rts, .rti, .bcc, .bcs, .beq, .bne, .bmi, .bpl, .bvc, .bvs] := by
  cases m
  case asl | lsr | rol | ror => cases o <;> simp_all [writtenRegs]
  all_goals simp_all [writtenRegs]

/-- The shifts and rotates without a memory operand are the four on A (42_inc_dec_shift R170). -/
theorem Instr.mem_shiftsOfA {i : Instr} (hm : i.mnemonic ∈ [.asl, .lsr, .rol, .ror])
    (ho : ∀ mo, i.operand ≠ .mem mo) : i ∈ [.aslAcc, .lsrAcc, .rolAcc, .rorAcc] := by
  cases i <;> simp_all [Instr.mnemonic, Instr.operand]

/-- Settles O47: a register that differs after an instruction stands in the instruction's row of written registers. -/
theorem registersChangeOnlyByTheirInstructions : Obligations.RegistersChangeOnlyByTheirInstructions := by
  unfold Obligations.RegistersChangeOnlyByTheirInstructions
  intro i s t hs ht
  rw [exec_eq_effect, Host.Outcome.next.injEq] at ht
  subst ht
  have written {r : Reg} (hp : r ≠ .p) (h : (effect i.mnemonic i.operand s).reg r ≠ s.reg r) :
      r ∈ writtenRegs i.mnemonic i.operand :=
    Decidable.by_contra fun hr => h (effect_reg_of_not_mem hs hr hp)
  refine ⟨fun ha => ?_, fun hx => ?_, fun hy => ?_, fun hsp => ?_, fun hpc => ?_⟩
  · have h := mem_writtenRegs (written (r := .a) nofun ha)
    simp only [reduceCtorEq, true_and, false_and, or_false] at h
    exact h.imp_right fun ⟨hm, ho⟩ => Instr.mem_shiftsOfA hm ho
  · simpa using mem_writtenRegs (written (r := .x) nofun hx)
  · simpa using mem_writtenRegs (written (r := .y) nofun hy)
  · simpa using mem_writtenRegs (written (r := .sp) nofun hsp)
  · simpa using mem_writtenRegs (written (r := .pc) nofun hpc)

/-- Settles O48: a flag that differs after an instruction stands at one of the instruction's written bits of P, and the
flags' bits are distinct in every profile. -/
theorem flagsChangeOnlyByTheirInstructions : Obligations.FlagsChangeOnlyByTheirInstructions := by
  unfold Obligations.FlagsChangeOnlyByTheirInstructions
  intro i s t hs ht
  rw [exec_eq_effect, Host.Outcome.next.injEq] at ht
  subst ht
  have hw : (effect i.mnemonic i.operand s).width = s.width := (effect_sameSetup _ _ s).1
  have hdw := s.width.eight_le_dw
  have written {k : Nat} (h : (effect i.mnemonic i.operand s).p.getLsbD k ≠ s.p.getLsbD k) :=
    mem_writtenBits (Decidable.by_contra fun hk => h (effect_bit_of_not_mem hs i.operand hk))
  -- In each clause `8 ≤ dw` rules out the rows of the other bits.
  refine ⟨fun hv => ?_, fun hd => ?_, fun hi => ?_, fun hc => ?_⟩
  · rw [State.flagV, State.flagV, hw] at hv
    have row := written hv
    grind
  · have row := written hd
    grind
  · have row := written hi
    grind
  · have row := written hc
    grind

/-- Bits 4 and 5 are read from P alone. -/
theorem State.breakBitsSet.of_p_eq {s t : State} (h : s.breakBitsSet) (hp : t.p = s.p) : t.breakBitsSet := by
  simpa only [State.breakBitsSet, State.flagB, State.flagUnused, hp] using h

/-- PLP and RTI load P with bits 4 and 5 set (10_state R29). -/
theorem State.setP_withB_breakBitsSet (s : State) (v : Word) : (s.setP (withB v)).breakBitsSet := by
  have loaded {k : Nat} (hk : k = 4 ∨ k = 5) : (s.setP (withB v)).p.getLsbD k = true := by
    have hd : k < s.width.dw := by have := s.width.eight_le_dw; omega
    obtain rfl | rfl := hk <;> simp only [State.setP_p, Width.getLsbD_cell, withB, hd] <;> simp
  exact ⟨loaded (.inl rfl), loaded (.inr rfl)⟩

/-- After RTI P is what its first pop loaded: the other two pops and the jump leave P alone (43_control R183). -/
theorem rti_p (s : State) : (rti s).p = (s.pop.2.setP (withB s.pop.1)).p := by
  simp [rti]

/-- No effect clears bit 4 or 5: PLP and RTI set them, and no other mnemonic writes them. -/
theorem effect_breakBitsSet {s : State} (h : s.wf) (hb : s.breakBitsSet) (m : Mnemonic) (o : Operand) :
    (effect m o s).breakBitsSet := by
  by_cases hm : m ∈ [.plp, .rti]
  · simp only [List.mem_cons, List.not_mem_nil, or_false] at hm
    obtain rfl | rfl := hm
    · exact State.setP_withB_breakBitsSet _ _
    · exact (State.setP_withB_breakBitsSet _ _).of_p_eq (rti_p s)
  · have hdw := s.width.dw_cases
    have kept {k : Nat} (hk : k = 4 ∨ k = 5) : (effect m o s).p.getLsbD k = s.p.getLsbD k :=
      effect_bit_of_not_mem h o fun hmem => by
        obtain hw | hw := mem_writtenBits hmem
        · exact hm hw
        · omega
    exact ⟨(kept (.inl rfl)).trans hb.1, (kept (.inr rfl)).trans hb.2⟩

theorem State.pcZeroCheck_p (s : State) : s.pcZeroCheck.p = s.p := by
  unfold State.pcZeroCheck
  split_ifs <;> rfl

/-- Settles O4: of a step's parts only the effect writes P, and no effect clears bit 4 or 5. -/
theorem stepKeepsTheBreakBitsSet : Obligations.StepKeepsTheBreakBitsSet := by
  unfold Obligations.StepKeepsTheBreakBitsSet
  intro s t hs hb hst
  have refreshed : s.refresh.breakBitsSet := hb.of_p_eq s.refresh_p
  rcases step_cases hst with ⟨-, ⟨e, -, rfl⟩ | ⟨i, rest, -, rfl⟩⟩
  · exact refreshed
  · have advanced : (s.refresh.advance i.length).wf := hs.refresh.advance _
    exact (effect_breakBitsSet advanced refreshed i.mnemonic i.operand).of_p_eq (State.pcZeroCheck_p _)

end Sys2Proof.Machine
end

section
/-! PROOFS. The memory family: words and limbs, the store, effective addresses, the refresh that opens a step, the
instruction a step finds in memory, and what may change a cell or the status. -/

namespace Sys2Proof.Laws.EncodingCells

/-- The facts about the encoding, for every instruction, in the order of the constructors. -/
theorem all (i : Instr) : Statement i := by
  cases i
  exacts [
    adcImm _, adcZp _, adcZpx _, adcAbs _ _, adcAbsx _ _, adcAbsy _ _, adcIndx _, adcIndy _, andImm _,
    andZp _, andZpx _, andAbs _ _, andAbsx _ _, andAbsy _ _, andIndx _, andIndy _, aslAcc, aslZp _,
    aslZpx _, aslAbs _ _, aslAbsx _ _, bcc _, bcs _, beq _, bitZp _, bitAbs _ _, bmi _, bne _, bpl _, brk,
    bvc _, bvs _, clc, cld, cli, clv, cmpImm _, cmpZp _, cmpZpx _, cmpAbs _ _, cmpAbsx _ _, cmpAbsy _ _,
    cmpIndx _, cmpIndy _, cpxImm _, cpxZp _, cpxAbs _ _, cpyImm _, cpyZp _, cpyAbs _ _, decZp _, decZpx _,
    decAbs _ _, decAbsx _ _, dex, dey, eorImm _, eorZp _, eorZpx _, eorAbs _ _, eorAbsx _ _, eorAbsy _ _,
    eorIndx _, eorIndy _, incZp _, incZpx _, incAbs _ _, incAbsx _ _, inx, iny, jmpAbs _ _, jmpInd _ _,
    jsrAbs _ _, ldaImm _, ldaZp _, ldaZpx _, ldaAbs _ _, ldaAbsx _ _, ldaAbsy _ _, ldaIndx _, ldaIndy _,
    ldxImm _, ldxZp _, ldxZpy _, ldxAbs _ _, ldxAbsy _ _, ldyImm _, ldyZp _, ldyZpx _, ldyAbs _ _,
    ldyAbsx _ _, lsrAcc, lsrZp _, lsrZpx _, lsrAbs _ _, lsrAbsx _ _, nop, oraImm _, oraZp _, oraZpx _,
    oraAbs _ _, oraAbsx _ _, oraAbsy _ _, oraIndx _, oraIndy _, pha, php, pla, plp, rolAcc, rolZp _,
    rolZpx _, rolAbs _ _, rolAbsx _ _, rorAcc, rorZp _, rorZpx _, rorAbs _ _, rorAbsx _ _, rti, rts,
    sbcImm _, sbcZp _, sbcZpx _, sbcAbs _ _, sbcAbsx _ _, sbcAbsy _ _, sbcIndx _, sbcIndy _, sec, sed, sei,
    staZp _, staZpx _, staAbs _ _, staAbsx _ _, staAbsy _ _, staIndx _, staIndy _, stxZp _, stxZpy _,
    stxAbs _ _, styZp _, styZpx _, styAbs _ _, tax, tay, tsx, txa, txs, tya]

end Sys2Proof.Laws.EncodingCells

namespace Sys2Proof

/-! The encoder and the decoder (30_encoding R81, R82). -/

/-- An operand is read back from its own cells, whatever cells follow. -/
theorem takeOperand_mode_cells (o : Operand) (rest : List Word) :
    takeOperand o.mode (o.cells ++ rest) = some (o, rest) := by
  cases o
  case mem o => cases o <;> rfl
  all_goals rfl

/-- Decoding undoes encoding and leaves the cells that follow the instruction. -/
theorem decode_encode_append (i : Instr) (rest : List Word) : decode (i.encode ++ rest) = .ok (i, rest) := by
  obtain ⟨parts, lookup, -, -⟩ := Laws.EncodingCells.all i
  simp only [Instr.encode, List.cons_append, decode, lookup, i.operandCells_eq_cells, takeOperand_mode_cells, parts]

theorem Mode.length_le (m : Mode) : m.length ≤ 3 := by cases m <;> decide

theorem Instr.length_encode (i : Instr) : i.encode.length = i.length := by
  obtain ⟨-, -, -, len⟩ := Laws.EncodingCells.all i
  exact len

/-- Each operand cell of a well-formed instruction is a cell value. -/
theorem Instr.fits_of_mem_cells {w : Width} {i : Instr} (hi : i.wf w = true) {c : Word} (hc : c ∈ i.operand.cells) :
    w.fits c = true :=
  List.all_eq_true.1 hi c (i.operandCells_eq_cells ▸ hc)

/-! Words and limbs (20_memory R54 to R56). -/

/-- At dw = 8 and 16 an address is two cells wide (00_scope R6). -/
theorem Width.pow_aw_eq_mul {w : Width} (hw : w ≠ .w32) : 2 ^ w.aw = 2 ^ w.dw * 2 ^ w.dw := by
  cases w
  case w32 => exact absurd rfl hw
  all_goals rfl

/-- At dw = 8 and 16 no address is reduced: the word of two cells is their exact little-endian value. -/
theorem Width.word_of_fits {w : Width} (hw : w ≠ .w32) {lo hi : Word} (hlo : w.fits lo = true)
    (hhi : w.fits hi = true) : w.word lo hi = lo.toNat + hi.toNat * 2 ^ w.dw := by
  rw [Width.fits_iff] at hlo hhi
  apply Width.addr_of_lt
  rw [Width.pow_aw_eq_mul hw]
  nlinarith

/-- At dw = 32 the low limb is the whole address (45_assembler R235, R236). -/
theorem Width.hi_w32 (v : Nat) : Width.hi .w32 v = 0 := by
  have h : Width.addr .w32 v / 2 ^ Width.dw .w32 = 0 := Nat.div_eq_of_lt (Width.addr_lt .w32 v)
  rw [Width.hi, h]
  rfl

/-- Joining the limbs of an address gives it back (20_memory R56). -/
theorem Width.word_lo_hi {w : Width} {v : Nat} (hv : v < 2 ^ w.aw) : w.word (w.lo v) (w.hi v) = v := by
  by_cases hw : w = .w32
  · subst hw
    rw [Width.word_w32, Width.lo, Width.toNat_cell]
    exact Nat.mod_eq_of_lt hv
  · have hq : v / 2 ^ w.dw < 2 ^ w.dw := Nat.div_lt_of_lt_mul (Width.pow_aw_eq_mul hw ▸ hv)
    rw [Width.lo, Width.hi, Width.word_of_fits hw (w.fits_cell _) (w.fits_cell _), Width.toNat_cell,
      Width.toNat_cell, Width.addr_of_lt hv, Nat.mod_eq_of_lt hq, Nat.mod_add_div']

end Sys2Proof

namespace Sys2Proof.Machine

/-- Settles O18: the laws of `word`, `lo` and `hi`; ReadWord is by definition the word of its two cells. -/
theorem wordsAreLittleEndianPairs : Obligations.WordsAreLittleEndianPairs := by
  unfold Obligations.WordsAreLittleEndianPairs
  refine ⟨fun _ _ _ hw hlo hhi => Width.word_of_fits hw hlo hhi, Width.word_w32, fun w v hv => ?_, Width.hi_w32,
    fun a v => ?_, fun s a => rfl⟩
  · exact Width.word_lo_hi ((w.le_addrMask_iff v).1 hv)
  · rw [OperandText.cells, Width.hi_w32]

/-- Settles O19: the store keeps the state in range, reads back at its address, and its frame is that one cell. -/
theorem storeWritesOneCellAndEmits : Obligations.StoreWritesOneCellAndEmits := by
  unfold Obligations.StoreWritesOneCellAndEmits
  intro s a v hs ha
  refine ⟨hs.store ((s.width.le_addrMask_iff a).1 ha) v, ?_, ?_⟩
  · rw [State.read_store hs.rising, if_pos rfl]
  · exact (ChangesOnly.refl s).store hs v (List.mem_singleton_self a)

/-- The zero-page modes address the zero page: the operand cell itself, or a sum reduced AND DM (20_memory R65). -/
theorem Instr.wf_ea_lt_of_zeroPage {s : State} {i : Instr} {o : MemOperand} (hi : i.wf s.width = true)
    (ho : i.operand = .mem o) (hm : o.mode = .zp ∨ o.mode = .zpx ∨ o.mode = .zpy) : s.ea o < 2 ^ s.width.dw := by
  cases o
  case zp z => exact (s.width.fits_iff z).1 (Instr.fits_of_mem_cells hi (by rw [ho]; exact List.mem_singleton_self z))
  case zpx | zpy => exact (s.width.fits_iff _).1 (s.width.fits_cell _)
  all_goals simp [MemOperand.mode] at hm

/-- Settles O17: an effective address is below `2^aw`, and below `2^dw` in the zero-page modes. -/
theorem effectiveAddressesStayInTheAddressSpace : Obligations.EffectiveAddressesStayInTheAddressSpace := by
  unfold Obligations.EffectiveAddressesStayInTheAddressSpace
  intro s i o _ hi ho
  exact ⟨(s.width.le_addrMask_iff _).2 (Instr.wf_ea_lt hi ho),
    fun hm => Nat.le_sub_one_of_lt (Instr.wf_ea_lt_of_zeroPage hi ho hm)⟩

/-! What may write a cell and the status (20_memory R52, 60_exceptions R286). -/

/-- A cell outside its row keeps its value, under a halt too. -/
theorem effect_read_of_not_mem {s : State} (h : s.wf) {m : Mnemonic} {o : Operand} {a : Nat}
    (ha : a ∉ writtenCells m o s) : (effect m o s).read a = s.read a := by
  by_cases hm : m ∈ [.brk, .cli, .sei]
  · obtain ⟨reason, he⟩ := effect_eq_halt hm o s
    rw [he, State.halt_read]
  · obtain ⟨events, -, -, frame, -⟩ := effect_changesOnly h o hm
    exact frame a ha

/-- Which mnemonics may write a cell, the table read the other way. -/
theorem mem_writtenCells {m : Mnemonic} {o : Operand} {s : State} {a : Nat} (h : a ∈ writtenCells m o s) :
    m ∈ [.sta, .stx, .sty, .inc, .dec, .asl, .lsr, .rol, .ror, .pha, .php, .jsr] := by
  cases m <;> simp_all [writtenCells]

/-- Only the three instructions that halt change the status. -/
theorem effect_status_of_not_mem {m : Mnemonic} (hm : m ∉ [.brk, .cli, .sei]) (o : Operand) (s : State) :
    (effect m o s).status = s.status := by
  rw [effect_status]
  cases m
  case brk | cli | sei => simp at hm
  all_goals rfl

/-- Settles O49: a cell that differs stands in the instruction's row of written cells, a status that differs is a
halt's, and no effect changes the session's setup. -/
theorem memoryAndStatusChangeOnlyByTheirInstructions : Obligations.MemoryAndStatusChangeOnlyByTheirInstructions := by
  unfold Obligations.MemoryAndStatusChangeOnlyByTheirInstructions
  intro i s t hs _ ht
  rw [exec_eq_effect, Host.Outcome.next.injEq] at ht
  subst ht
  obtain ⟨width, origin, labels, -, codeLength, -⟩ := effect_sameSetup i.mnemonic i.operand s
  refine ⟨fun ⟨a, ha⟩ => ?_, fun hst => ?_, width, origin, labels, codeLength⟩
  · exact mem_writtenCells (Decidable.by_contra fun h => ha (effect_read_of_not_mem hs h))
  · exact Decidable.by_contra fun h => hst (effect_status_of_not_mem h i.operand s)

/-! The trace only grows: what a step adds stands in front of what the refresh left (60_exceptions R296, log 7). -/

theorem effect_trace_suffix {s : State} (h : s.wf) (m : Mnemonic) (o : Operand) :
    s.trace <:+ (effect m o s).trace := by
  by_cases hm : m ∈ [.brk, .cli, .sei]
  · obtain ⟨reason, he⟩ := effect_eq_halt hm o s
    rw [he, State.halt_trace]
    exact List.suffix_cons _ _
  · obtain ⟨events, -, -, -, added, -⟩ := effect_changesOnly h o hm
    exact ⟨events, added.symm⟩

theorem State.pcZeroCheck_trace_suffix (s : State) : s.trace <:+ s.pcZeroCheck.trace := by
  unfold State.pcZeroCheck
  split_ifs
  · exact List.suffix_cons _ _
  · exact List.suffix_rfl

/-- Every event of a step comes after its refresh (30_encoding R83). -/
theorem step_trace_suffix {s t : State} (hs : s.wf) (h : step s = .next t) : s.refresh.trace <:+ t.trace := by
  rcases step_cases h with ⟨-, ⟨e, -, rfl⟩ | ⟨i, rest, -, rfl⟩⟩
  · exact List.suffix_cons _ _
  · have advanced : (s.refresh.advance i.length).wf := hs.refresh.advance _
    exact (effect_trace_suffix advanced _ _).trans (State.pcZeroCheck_trace_suffix _)

theorem State.refresh_reg (s : State) (r : Reg) : s.refresh.reg r = s.reg r := by
  cases r <;> simp [State.reg]

/-- Settles O12: the refresh stores the draw, a byte, in cell 0xFE with one event, and the rest of the step only adds
events in front of it. -/
theorem stepRefreshesTheRandomCellFirst : Obligations.StepRefreshesTheRandomCellFirst := by
  unfold Obligations.StepRefreshesTheRandomCellFirst
  intro s hs
  have drawn : s.refresh.read 0xFE = s.draw.setWidth 32 := State.read_refresh hs randAddr
  refine ⟨drawn, ?_, s.refresh_reg, fun a ha => ?_, s.refresh_events, fun t ht => ?_⟩
  · rw [drawn, Byte.toNat_extend]
    exact Nat.le_of_lt_succ s.draw.isLt
  · exact (State.read_refresh hs a).trans (if_neg ha)
  · obtain ⟨later, h⟩ := step_trace_suffix hs ht
    exact ⟨later, by rw [← h, s.refresh_events]; rfl⟩

/-! The instruction that stands in memory at PC (20_memory R70, 30_encoding R84). -/

/-- The fetched cells are those at `(PC + k) AND AM`; the first is the one at PC, an address. -/
theorem State.wf.fetchCells_getElem? {s : State} (h : s.wf) {k : Nat} (hk : k < 3) :
    s.fetchCells[k]? = some (s.read (s.width.addr (s.pc.toNat + k))) := by
  obtain rfl | rfl | rfl : k = 0 ∨ k = 1 ∨ k = 2 := by omega
  · rw [Nat.add_zero, Width.addr_of_lt h.pc_lt]
    rfl
  · rfl
  · rfl

/-- Cells that stand in memory from PC on, three at most, are the first the machine fetches. -/
theorem State.wf.prefix_fetchCells {s : State} (h : s.wf) {cells : List Word} (hlen : cells.length ≤ 3)
    (hcells : ∀ k c, cells[k]? = some c → s.read (s.width.addr (s.pc.toNat + k)) = c) :
    cells <+: s.fetchCells := by
  refine List.prefix_iff_getElem?.2 fun k hk => ?_
  rw [h.fetchCells_getElem? (by omega), hcells k _ (List.getElem?_eq_getElem hk)]

/-- A Ready core runs the instruction it decodes, then checks PC (30_encoding R83). -/
theorem step_of_decode {s : State} {i : Instr} {rest : List Word} (hr : s.status = .ready)
    (hd : decode s.refresh.fetchCells = .ok (i, rest)) :
    step s = .next (effect i.mnemonic i.operand (s.refresh.advance i.length)).pcZeroCheck := by
  simp only [step, hr, hd, exec_eq_effect]

/-- Settles O11: the refresh leaves the instruction's cells alone, so the step fetches them, and decoding undoes
encoding. -/
theorem stepRunsTheInstructionInMemory : Obligations.StepRunsTheInstructionInMemory := by
  unfold Obligations.StepRunsTheInstructionInMemory
  intro s i hs hr _ hcells
  have fetched : i.encode <+: s.refresh.fetchCells := by
    refine hs.refresh.prefix_fetchCells (i.length_encode.trans_le i.operand.mode.length_le) fun k c hk => ?_
    obtain ⟨hne, hread⟩ := hcells k c hk
    rw [State.refresh_width, State.refresh_pc]
    exact ((State.read_refresh hs _).trans (if_neg hne)).trans hread
  obtain ⟨rest, hrest⟩ := fetched
  exact ⟨_, exec_eq_effect i _, step_of_decode hr (hrest ▸ decode_encode_append i rest)⟩

end Sys2Proof.Machine
end

section
/-! PROOFS. The encoding family: the decoder inverted, the opcode table, the step around `decode`, and the effective
addresses as numbers. -/

namespace Sys2Proof

/-! The opcode table (30_encoding R100, R101). -/

/-- A row found by an opcode stands in the table under that opcode. -/
theorem mem_opcodeTable_of_lookup {n : Nat} {r : OpcodeRow} (h : lookupOpcode n = some r) :
    r ∈ opcodeTable ∧ r.opcode = n :=
  ⟨List.mem_of_find?_eq_some h, by simpa using List.find?_some h⟩

theorem opcode_lt_of_mem_opcodeTable : ∀ r ∈ opcodeTable, r.opcode < 0x100 := by decide +kernel

/-- A value above 0xFF matches no row (30_encoding R80). -/
theorem lookupOpcode_of_ge {n : Nat} (hn : 0x100 ≤ n) : lookupOpcode n = none := by
  by_contra h
  obtain ⟨r, hr⟩ := Option.ne_none_iff_exists'.1 h
  obtain ⟨hmem, rfl⟩ := mem_opcodeTable_of_lookup hr
  exact absurd (opcode_lt_of_mem_opcodeTable r hmem) (Nat.not_lt.2 hn)

/-! The decoder, in both outcomes (30_encoding R81, R98). -/

/-- An opcode cell outside the table is unknown, whatever follows it. -/
theorem decode_of_unmapped {op : Word} (h : lookupOpcode op.toNat = none) (cs : List Word) :
    decode (op :: cs) = .error (.unknownOpcode op) := by
  simp only [decode, h]

/-- What decodes was found in the table, read as that row's operand, and built from the two. -/
theorem decode_cons_eq_ok {op : Word} {cs rest : List Word} {i : Instr} (h : decode (op :: cs) = .ok (i, rest)) :
    ∃ r o, lookupOpcode op.toNat = some r ∧ takeOperand r.mode cs = some (o, rest) ∧
      Instr.ofParts r.mnemonic o = some i := by
  rw [decode] at h
  split at h
  case h_1 => cases h
  case h_2 r hr =>
    split at h
    case h_1 => cases h
    case h_2 o _ ho =>
      split at h
      case h_1 => cases h
      case h_2 j hj =>
        cases h
        exact ⟨r, o, hr, ho, hj⟩

theorem takeOperand_mode {mode : Mode} {cs rest : List Word} {o : Operand}
    (h : takeOperand mode cs = some (o, rest)) : o.mode = mode := by
  unfold takeOperand at h
  split at h <;> cases h <;> rfl

/-- An instruction built from parts has the mnemonic it was built from. The split is by the operand's form and the
mnemonic, of which the table lacks most pairs. -/
theorem Instr.mnemonic_of_ofParts {m : Mnemonic} {o : Operand} {i : Instr} (h : Instr.ofParts m o = some i) :
    i.mnemonic = m := by
  cases o
  case mem o => cases o <;> cases m <;> cases h <;> rfl
  all_goals cases m <;> cases h <;> rfl

/-- The opcode cell of an instruction is that of the table's row for its mnemonic and mode (30_encoding R100). -/
theorem Instr.opcode_of_mem_opcodeTable {i : Instr} {r : OpcodeRow} (hr : r ∈ opcodeTable)
    (hm : r.mnemonic = i.mnemonic) (ho : r.mode = i.operand.mode) : i.opcode = BitVec.ofNat 32 r.opcode := by
  obtain ⟨found, -, -⟩ := Laws.EncodingCells.rows_found r hr
  rw [Instr.opcode, ← hm, ← ho, found]
  rfl

/-- The opcode cell that was decoded is the one that encoding writes: a mnemonic has one opcode in each mode. -/
theorem opcode_of_decode {op : Word} {cs rest : List Word} {i : Instr} (h : decode (op :: cs) = .ok (i, rest)) :
    i.opcode = op := by
  obtain ⟨r, o, hr, ho, hi⟩ := decode_cons_eq_ok h
  obtain ⟨hmem, hop⟩ := mem_opcodeTable_of_lookup hr
  have mode : r.mode = i.operand.mode := by rw [Instr.operand_of_ofParts hi, takeOperand_mode ho]
  rw [Instr.opcode_of_mem_opcodeTable hmem (Instr.mnemonic_of_ofParts hi).symm mode, hop, BitVec.ofNat_toNat,
    BitVec.setWidth_eq]

/-- Encoding undoes decoding. -/
theorem encode_append_of_decode {cs rest : List Word} {i : Instr} (h : decode cs = .ok (i, rest)) :
    cs = i.encode ++ rest := by
  obtain ⟨op, rfl⟩ := decode_cells h
  rw [Instr.encode, opcode_of_decode h, List.cons_append]

theorem Mode.one_le_length (m : Mode) : 1 ≤ m.length := by cases m <;> decide

end Sys2Proof

namespace Sys2Proof.Machine

/-- Settles O7: decoding and encoding undo each other, and an instruction has the one to three cells of its mode. -/
theorem decodeAndEncodeAgree : Obligations.DecodeAndEncodeAgree :=
  ⟨decode_encode_append, fun _ _ _ => encode_append_of_decode,
    fun i => ⟨i.length_encode, i.operand.mode.one_le_length, i.operand.mode.length_le⟩⟩

/-! The step of an unmapped opcode cell (30_encoding R98, 60_exceptions R282). -/

theorem step_of_decode_error {s : State} {e : DecodeError} (hr : s.status = .ready)
    (hd : decode s.refresh.fetchCells = .error e) : step s = .next s.refresh.unknownOpcode := by
  simp only [step, hr, hd]

theorem State.unknownOpcode_reg (s : State) {r : Reg} (hr : r ≠ .pc) : s.unknownOpcode.reg r = s.reg r := by
  cases r
  case pc => exact absurd rfl hr
  all_goals rfl

/-- Settles O13: the step is the refresh, which leaves the registers and every cell but 0xFE, then the halt with PC
past the cell. -/
theorem unknownOpcodeHalts : Obligations.UnknownOpcodeHalts := by
  unfold Obligations.UnknownOpcodeHalts
  intro s hs hr hl
  have hl' : lookupOpcode (s.refresh.read s.refresh.pc.toNat).toNat = none := by rwa [State.refresh_pc]
  have stepped : step s = .next s.refresh.unknownOpcode := step_of_decode_error hr (decode_of_unmapped hl' _)
  obtain ⟨width, origin, labels, cursor, codeLength, running⟩ := step_sameSetup stepped
  refine ⟨_, stepped, ?_, ?_, fun r hpc => ?_, fun a ha => ?_, ?_, width, origin, labels, cursor, codeLength, running⟩
  · rw [State.unknownOpcode, State.halt_status, State.refresh_pc]
  · rw [State.unknownOpcode, State.halt_pc, State.advance_pc, Width.toNat_addrWord, State.refresh_pc,
      State.refresh_width]
    rfl
  · rw [State.unknownOpcode_reg _ hpc, State.refresh_reg]
  · exact (State.read_refresh hs a).trans (if_neg ha)
  · rw [State.unknownOpcode, State.halt_trace, State.advance_trace, State.refresh_events, State.refresh_pc]
    rfl

/-! Addressing modes as numbers (30_encoding R87 to R95). -/

/-- Settles O16: every address is by definition the reduction of a sum or the word of two cells; the zero-page sums
are read as numbers, which is also the pointer of (zp,X). -/
theorem effectiveAddresses : Obligations.EffectiveAddresses := by
  unfold Obligations.EffectiveAddresses
  intro s z lo hi _ _
  refine ⟨rfl, Width.toNat_cell _ _, Width.toNat_cell _ _, rfl, rfl, rfl, ?_, rfl, ?_⟩
  · rintro _ rfl
    rw [← Width.toNat_cell]
    rfl
  · rintro _ rfl
    rfl

/-! The opcode map (30_encoding R101). -/

/-- Settles O8: each list of cells evaluates to its instruction, and no row of the table has the opcode 0x02. -/
theorem cellsOfTheOpcodeMapDecode : Obligations.CellsOfTheOpcodeMapDecode :=
  ⟨rfl, rfl, rfl, rfl, rfl, rfl, rfl, rfl, rfl, rfl, rfl, rfl, rfl, decode_of_unmapped (by decide) []⟩

/-- The table, read by the hex digits of the opcode, is the map of R101. -/
theorem lookupOpcode_eq_opcodeMap : ∀ h : Nat, h < 16 → ∀ l : Nat, l < 16 →
    (lookupOpcode (16 * h + l)).map (fun r => (r.mnemonic, r.mode)) = ((opcodeMap.getD h []).getD l none) := by
  decide +kernel

theorem mem_encodings_of_mem_opcodeTable {r : OpcodeRow} (h : r ∈ opcodeTable) :
    (r.mode, r.opcode) ∈ encodings r.mnemonic :=
  List.mem_map.2 ⟨r, List.mem_filter.2 ⟨h, beq_self_eq_true _⟩, rfl⟩

theorem Instr.opcode_mem_encodings (i : Instr) : (i.operand.mode, i.opcode.toNat) ∈ encodings i.mnemonic := by
  obtain ⟨-, lookup, -, -⟩ := Laws.EncodingCells.all i
  exact mem_encodings_of_mem_opcodeTable (mem_opcodeTable_of_lookup lookup).1

/-- Settles O9: the table against the map digit by digit, its unmapped values counted, and the cells above 0xFF, which
no row matches. -/
theorem onlyTheTableOpcodesDecode : Obligations.OnlyTheTableOpcodesDecode :=
  ⟨lookupOpcode_eq_opcodeMap, by decide +kernel,
    fun _ cells hop => decode_of_unmapped (lookupOpcode_of_ge hop) cells, Instr.opcode_mem_encodings⟩

/-! The instruction cycle (30_encoding R83). -/

/-- Settles O10: the cycle around a decoded instruction, whose effect is what `exec` answers. -/
theorem stepRunsTheDecodedInstruction : Obligations.StepRunsTheDecodedInstruction :=
  fun _ i _ hr hd => ⟨_, exec_eq_effect i _, step_of_decode hr hd⟩

end Sys2Proof.Machine
end

section
/-! PROOFS. The load, store and transfer family: the forms whose operand has a value or an address, a register taking a
value with N and Z set from it, and the store of a register. -/

namespace Sys2Proof.Machine

/-! Which operands have a value, and which an address (30_encoding R86 to R97). -/

/-- An operand in any mode but single, (abs) and branch has a value, the one an effect reads. -/
theorem State.operandValue_eq_value (s : State) {o : Operand} (ho : o.mode ∉ [.single, .ind, .rel]) :
    s.operandValue o = some (s.value o) := by
  cases o
  case imm | mem => rfl
  case single | ind | rel => simp [Operand.mode] at ho

/-- An operand in any mode but single, immediate, (abs) and branch is a memory operand. -/
theorem Operand.exists_eq_mem {o : Operand} (ho : o.mode ∉ [.single, .imm, .ind, .rel]) : ∃ mo, o = .mem mo := by
  cases o
  case mem mo => exact ⟨mo, rfl⟩
  case single | imm | ind | rel => simp [Operand.mode] at ho

/-- Every row of the table for a load has a mode whose operand has a value (40_load_store_transfer R120 to R122). -/
theorem encodings_load : ∀ m ∈ [Mnemonic.lda, .ldx, .ldy], ∀ e ∈ encodings m, e.1 ∉ [.single, .ind, .rel] := by
  decide +kernel

/-- Every row of the table for a store has a memory mode (40_load_store_transfer R123 to R125). -/
theorem encodings_store :
    ∀ m ∈ [Mnemonic.sta, .stx, .sty], ∀ e ∈ encodings m, e.1 ∉ [.single, .imm, .ind, .rel] := by
  decide +kernel

theorem exec_of_parts {i : Instr} {m : Mnemonic} {o : Operand} (hm : i.mnemonic = m) (ho : i.operand = o) (s : State) :
    exec i s = .next (effect m o s) := by
  rw [exec_eq_effect, hm, ho]

/-! A register takes a value, and N and Z are set from it (10_state R30). -/

/-- `SetNZ` after changes that touch no bit of P: N and Z are those of the value, and the frame gains their bits. -/
theorem setNZ_of_changesOnly {regs : List Reg} {cells : List Nat} {events : List Event} {s t : State} (ht : t.wf)
    (h : ChangesOnly regs (nzBits s.width) cells events s t) (v : Word) :
    NZFrom v s (t.setNZ v) ∧ ChangesOnly regs (nzBits s.width) cells events s (t.setNZ v) := by
  obtain ⟨z, n⟩ := State.setNZ_nz ht v
  rw [h.width_eq] at n
  exact ⟨⟨z, n⟩, h.setNZ ht v (by simp [nzBits]) (by simp [nzBits])⟩

section Takes
variable {s : State} (hs : s.wf) {v : Word} (hv : s.width.fits v = true)
include hs hv

theorem setA_setNZ_takes : ((s.setA v).setNZ v).a = v ∧ NZFrom v s ((s.setA v).setNZ v) ∧
    ChangesOnly [.a] (nzBits s.width) [] [] s ((s.setA v).setNZ v) :=
  ⟨Width.cell_toNat_of_fits hv,
    setNZ_of_changesOnly (hs.setA v) ((ChangesOnly.refl s).setA v (List.mem_singleton_self _)) v⟩

theorem setX_setNZ_takes : ((s.setX v).setNZ v).x = v ∧ NZFrom v s ((s.setX v).setNZ v) ∧
    ChangesOnly [.x] (nzBits s.width) [] [] s ((s.setX v).setNZ v) :=
  ⟨Width.cell_toNat_of_fits hv,
    setNZ_of_changesOnly (hs.setX v) ((ChangesOnly.refl s).setX v (List.mem_singleton_self _)) v⟩

theorem setY_setNZ_takes : ((s.setY v).setNZ v).y = v ∧ NZFrom v s ((s.setY v).setNZ v) ∧
    ChangesOnly [.y] (nzBits s.width) [] [] s ((s.setY v).setNZ v) :=
  ⟨Width.cell_toNat_of_fits hv,
    setNZ_of_changesOnly (hs.setY v) ((ChangesOnly.refl s).setY v (List.mem_singleton_self _)) v⟩

/-- A stored cell value reads back, and the store changes that cell alone, with one event (20_memory R52). -/
theorem store_writes (a : Nat) : (s.store a v).read a = v ∧
    ChangesOnly [] [] [a] [.onMemoryWrite a v] s (s.store a v) := by
  have kept : s.width.cell v.toNat = v := Width.cell_toNat_of_fits hv
  have frame := (ChangesOnly.refl s).store (regs := []) (bits := []) hs v (List.mem_singleton_self a)
  rw [kept] at frame
  exact ⟨by rw [State.read_store hs.rising, if_pos rfl, kept], frame⟩

end Takes

/-- Settles O20: a load's operand has a value, a cell value, and the register that takes it sets N and Z. -/
theorem loadsSetTheRegisterAndNZ : Obligations.LoadsSetTheRegisterAndNZ := by
  unfold Obligations.LoadsSetTheRegisterAndNZ
  refine ⟨rfl, rfl, rfl, fun i s hs hi => ?_⟩
  have loaded (hm : i.mnemonic ∈ [.lda, .ldx, .ldy]) : s.operandValue i.operand = some (s.value i.operand) ∧
      s.width.fits (s.value i.operand) = true := by
    have value := s.operandValue_eq_value (encodings_load _ hm _ (Instr.opcode_mem_encodings i))
    exact ⟨value, hs.fits_operandValue hi value⟩
  refine ⟨fun hm => ?_, fun hm => ?_, fun hm => ?_⟩
  · obtain ⟨value, fits⟩ := loaded (by simp [hm])
    exact ⟨_, _, value, exec_of_parts hm rfl s, setA_setNZ_takes hs fits⟩
  · obtain ⟨value, fits⟩ := loaded (by simp [hm])
    exact ⟨_, _, value, exec_of_parts hm rfl s, setX_setNZ_takes hs fits⟩
  · obtain ⟨value, fits⟩ := loaded (by simp [hm])
    exact ⟨_, _, value, exec_of_parts hm rfl s, setY_setNZ_takes hs fits⟩

/-- Settles O21: a store's operand is a memory operand, and the register, a cell value, is stored at its address. -/
theorem storesWriteTheRegister : Obligations.StoresWriteTheRegister := by
  unfold Obligations.StoresWriteTheRegister
  refine ⟨rfl, rfl, rfl, fun i s hs _ => ?_⟩
  have address (hm : i.mnemonic ∈ [.sta, .stx, .sty]) : ∃ o, i.operand = .mem o :=
    Operand.exists_eq_mem (encodings_store _ hm _ (Instr.opcode_mem_encodings i))
  refine ⟨fun hm => ?_, fun hm => ?_, fun hm => ?_⟩
  · obtain ⟨o, ho⟩ := address (by simp [hm])
    exact ⟨o, _, ho, exec_of_parts hm ho s, store_writes hs hs.fits_a (s.ea o)⟩
  · obtain ⟨o, ho⟩ := address (by simp [hm])
    exact ⟨o, _, ho, exec_of_parts hm ho s, store_writes hs hs.fits_x (s.ea o)⟩
  · obtain ⟨o, ho⟩ := address (by simp [hm])
    exact ⟨o, _, ho, exec_of_parts hm ho s, store_writes hs hs.fits_y (s.ea o)⟩

/-- Settles O22: the source register holds a cell value; TXS writes SP and no flag. -/
theorem transfersCopyARegister : Obligations.TransfersCopyARegister := by
  unfold Obligations.TransfersCopyARegister
  refine ⟨rfl, rfl, rfl, rfl, rfl, rfl, fun s hs => ⟨?tax, ?tay, ?txa, ?tya, ?tsx, ?txs⟩⟩
  case tax => exact ⟨_, rfl, setX_setNZ_takes hs hs.fits_a⟩
  case tay => exact ⟨_, rfl, setY_setNZ_takes hs hs.fits_a⟩
  case txa => exact ⟨_, rfl, setA_setNZ_takes hs hs.fits_x⟩
  case tya => exact ⟨_, rfl, setA_setNZ_takes hs hs.fits_y⟩
  case tsx => exact ⟨_, rfl, setX_setNZ_takes hs hs.fits_sp⟩
  case txs =>
    exact ⟨_, rfl, Width.cell_toNat_of_fits hs.fits_x, (ChangesOnly.refl s).setSp _ (List.mem_singleton_self _)⟩

end Sys2Proof.Machine
end

section
/-! PROOFS. The arithmetic and logic family: the flags after a chain of flag writes, what an addition, a subtraction, a
compare and the bit test leave, the binary results by the sign bits of their operands, and the decimal results by the
decimal digits of theirs. -/

namespace Sys2Proof

theorem Width.dataMask_add_one (w : Width) : w.dataMask + 1 = 2 ^ w.dw := by cases w <;> rfl

theorem Width.le_dataMask_of_fits {w : Width} {v : Word} (h : w.fits v = true) : v.toNat ≤ w.dataMask := by
  have := (w.fits_iff v).1 h
  have := w.dataMask_add_one
  omega

/-- The sign-bit test of the two threshold algorithms (41_arithmetic_logic R141, R143, R145, R146). -/
theorem Width.xor_and_signBit_eq_zero_iff (w : Width) (a m : Word) :
    (a ^^^ m).toNat &&& w.signBit = 0 ↔ w.msb a = w.msb m := by
  have one_bit : (a ^^^ m).toNat &&& w.signBit = ((a ^^^ m).getLsbD (w.dw - 1)).toNat * 2 ^ (w.dw - 1) :=
    Nat.and_two_pow _ _
  rw [one_bit, BitVec.getLsbD_xor, Width.msb, Width.msb]
  cases a.getLsbD (w.dw - 1) <;> cases m.getLsbD (w.dw - 1) <;> simp

/-- The complement `DM - v` of a cell value (41_arithmetic_logic R142). -/
theorem Width.toNat_complement (w : Width) (v : Word) :
    (w.cell (w.dataMask - v.toNat)).toNat = w.dataMask - v.toNat := by
  have := w.dataMask_add_one
  rw [Width.toNat_cell, Nat.mod_eq_of_lt (by omega)]

/-- The complement has the other sign. -/
theorem Width.msb_complement {w : Width} {v : Word} (h : w.fits v = true) :
    w.msb (w.cell (w.dataMask - v.toNat)) = !w.msb v := by
  have hv := Width.le_dataMask_of_fits h
  have hd := w.dataMask_add_one
  have hb := w.two_mul_signBit
  rw [Width.msb_eq (w.fits_cell _), Width.msb_eq h, Width.toNat_complement, ← decide_not, decide_eq_decide]
  omega

/-- The complement is `-1 - v` as a signed number. -/
theorem Width.signed_complement {w : Width} {v : Word} (h : w.fits v = true) :
    w.signed (w.cell (w.dataMask - v.toNat)) = -1 - w.signed v := by
  have hv := Width.le_dataMask_of_fits h
  have hd := w.dataMask_add_one
  have hb := w.two_mul_signBit
  rw [Width.signed, Width.signed, Width.toNat_complement, Width.signBit]
  split_ifs <;> omega

/-- The difference of two cell values reduces to 0 only where they are equal. -/
theorem Width.cellInt_sub_eq_zero_iff {w : Width} {r m : Word} (hr : w.fits r = true) (hm : w.fits m = true) :
    w.cellInt ((r.toNat : Int) - m.toNat) = 0 ↔ r = m := by
  constructor
  · intro h0
    have hr' := (w.fits_iff r).1 hr
    have hm' := (w.fits_iff m).1 hm
    have reduced := w.toNat_cellInt ((r.toNat : Int) - m.toNat)
    rw [h0] at reduced
    have difference :=
      Int.eq_zero_of_abs_lt_dvd (Int.dvd_of_emod_eq_zero reduced.symm) (abs_lt.2 ⟨by omega, by omega⟩)
    exact BitVec.eq_of_toNat_eq (by omega)
  · rintro rfl
    simp [Width.cellInt]

end Sys2Proof

namespace Sys2Proof.Machine

/-! Binary addition and subtraction (41_arithmetic_logic R141, R142, R145). -/

/-- V of the binary sum by the sign bits of the operands (41_arithmetic_logic R141). -/
theorem addBinary_overflow (w : Width) (a m : Word) (c : Bool) {n : Nat} (hn : n = a.toNat + m.toNat + bitNat c) :
    (addBinary w a m c).overflow = (decide (w.msb a = w.msb m) &&
      if n ≥ 2 ^ w.dw then decide (n < 2 ^ w.dw + 2 ^ (w.dw - 1)) else decide (n ≥ 2 ^ (w.dw - 1))) := by
  simp only [addBinary, Width.xor_and_signBit_eq_zero_iff, ← hn, ← decide_not, ge_iff_le, Nat.not_le, Nat.not_lt]
  split_ifs <;> rfl

/-- Subtracting `m` is adding `DM - m` (41_arithmetic_logic R142). -/
theorem subBinary_eq_addBinary {w : Width} {m : Word} (a : Word) (c : Bool) (hm : w.fits m = true) :
    subBinary w a m c = addBinary w a (w.cell (w.dataMask - m.toNat)) c := by
  have sum : w.dataMask + a.toNat - m.toNat + bitNat c = a.toNat + (w.dataMask - m.toNat) + bitNat c := by
    have := Width.le_dataMask_of_fits hm
    omega
  simp only [subBinary, addBinary, sum, Width.toNat_complement, ne_eq, Width.xor_and_signBit_eq_zero_iff,
    Width.msb_complement hm, Bool.eq_not, ge_iff_le, ← Nat.not_lt, ite_not]

/-- V of the binary sum is signed overflow: with equal sign bits the thresholds on the unsigned sum are the bounds of
the signed range, and with different ones neither is crossed (41_arithmetic_logic R142). -/
theorem addBinary_overflow_eq_signed {w : Width} {a m : Word} (c : Bool) (ha : w.fits a = true) (hm : w.fits m = true) :
    (addBinary w a m c).overflow = decide (w.signed a + w.signed m + bitNat c < -(w.signBit : Int) ∨
      w.signed a + w.signed m + bitNat c > (w.signBit : Int) - 1) := by
  have hc := bitNat_le c
  have hb := w.two_mul_signBit
  have ha' := (w.fits_iff a).1 ha
  have hm' := (w.fits_iff m).1 hm
  rw [addBinary_overflow w a m c rfl, Width.msb_eq ha, Width.msb_eq hm, Width.signed, Width.signed, Width.signBit,
    Bool.eq_iff_iff]
  simp only [Bool.and_eq_true, decide_eq_true_eq, decide_eq_decide]
  split_ifs <;> simp only [decide_eq_true_eq] <;> omega

/-- The carry of the difference is no borrow (41_arithmetic_logic R142). -/
theorem subBinary_carry {w : Width} {m : Word} (a : Word) (c : Bool) (hm : w.fits m = true) :
    (subBinary w a m c).carry = decide (a.toNat ≥ m.toNat + (1 - bitNat c)) := by
  have hc := bitNat_le c
  have hd := w.dataMask_add_one
  have hm' := Width.le_dataMask_of_fits hm
  rw [subBinary, decide_eq_decide]
  omega

/-- Settles O25: the sum directly; the difference as the sum with the complement, as a signed number `-1 - m`. -/
theorem overflowIsSignedOverflow : Obligations.OverflowIsSignedOverflow := by
  unfold Obligations.OverflowIsSignedOverflow
  intro w a m c ha hm
  have complement := subBinary_eq_addBinary a c hm
  refine ⟨addBinary_overflow_eq_signed c ha hm, ?_, subBinary_carry a c hm, complement⟩
  have sum : w.signed a + w.signed (w.cell (w.dataMask - m.toNat)) + bitNat c =
      w.signed a - w.signed m - (1 - bitNat c) := by
    rw [Width.signed_complement hm]
    omega
  rw [complement, addBinary_overflow_eq_signed c ha (w.fits_cell _), sum]

/-! The flags after a chain of flag writes (10_state R27, R28). -/

theorem State.flagC_setC {s : State} (h : s.wf) (b : Bool) : (s.setC b).flagC = b := by
  rw [State.flagC, State.getLsbD_setC h, if_pos rfl]

theorem State.flagC_setV {s : State} (h : s.wf) (b : Bool) : (s.setV b).flagC = s.flagC := by
  have := s.width.eight_le_dw
  rw [State.flagC, State.getLsbD_setV h, if_neg (by omega), State.flagC]

theorem State.flagC_setNZ {s : State} (h : s.wf) (v : Word) : (s.setNZ v).flagC = s.flagC := by
  have := s.width.eight_le_dw
  rw [State.flagC, State.getLsbD_setNZ h, if_neg (by omega), if_neg (by omega), State.flagC]

theorem State.flagV_setV {s : State} (h : s.wf) (b : Bool) : (s.setV b).flagV = b := by
  rw [State.flagV, State.getLsbD_setV h, State.setV_width, if_pos rfl]

theorem State.flagV_setZ {s : State} (h : s.wf) (b : Bool) : (s.setZ b).flagV = s.flagV := by
  have := s.width.eight_le_dw
  rw [State.flagV, State.getLsbD_setZ h, State.setZ_width, if_neg (by omega), State.flagV]

theorem State.flagV_setNZ {s : State} (h : s.wf) (v : Word) : (s.setNZ v).flagV = s.flagV := by
  have := s.width.eight_le_dw
  rw [State.flagV, State.getLsbD_setNZ h, State.setNZ_width, if_neg (by omega), if_neg (by omega), State.flagV]

theorem State.flagZ_setZ {s : State} (h : s.wf) (b : Bool) : (s.setZ b).flagZ = b := by
  rw [State.flagZ, State.getLsbD_setZ h, if_pos rfl]

theorem State.flagN_setN {s : State} (h : s.wf) (b : Bool) : (s.setN b).flagN = b := by
  rw [State.flagN, State.getLsbD_setN h, State.setN_width, if_pos rfl]

theorem State.flagN_setV {s : State} (h : s.wf) (b : Bool) : (s.setV b).flagN = s.flagN := by
  have := s.width.eight_le_dw
  rw [State.flagN, State.getLsbD_setV h, State.setV_width, if_neg (by omega), State.flagN]

theorem State.flagN_setZ {s : State} (h : s.wf) (b : Bool) : (s.setZ b).flagN = s.flagN := by
  have := s.width.eight_le_dw
  rw [State.flagN, State.getLsbD_setZ h, State.setZ_width, if_neg (by omega), State.flagN]

/-! The operands of the family (30_encoding R86 to R95). -/

/-- Every row of the table for the family but BIT has a mode whose operand has a value. -/
theorem encodings_alu : ∀ m ∈ [Mnemonic.adc, .sbc, .and, .ora, .eor, .cmp, .cpx, .cpy], ∀ e ∈ encodings m,
    e.1 ∉ [.single, .ind, .rel] := by
  decide +kernel

/-- Both rows of the table for BIT have a memory mode. -/
theorem encodings_bit : ∀ e ∈ encodings .bit, e.1 ∉ [.single, .imm, .ind, .rel] := by
  decide +kernel

/-- The operand of an instruction of the family has a value, a cell value. -/
theorem State.wf.alu_operand {s : State} (hs : s.wf) {i : Instr} (hi : i.wf s.width = true)
    (hm : i.mnemonic ∈ [.adc, .sbc, .and, .ora, .eor, .cmp, .cpx, .cpy]) :
    s.operandValue i.operand = some (s.value i.operand) ∧ s.width.fits (s.value i.operand) = true := by
  have value := s.operandValue_eq_value (encodings_alu _ hm _ (Instr.opcode_mem_encodings i))
  exact ⟨value, hs.fits_operandValue hi value⟩

/-! How every ADC and SBC ends (41_arithmetic_logic R141, R143, R145 to R147). -/

/-- `t` is `s` after an addition or a subtraction with the result `r`. -/
def AluEnds (r : AluResult) (s t : State) : Prop :=
  t.a = r.value ∧ t.flagC = r.carry ∧ t.flagV = r.overflow ∧ NZFrom t.a s t ∧
    ChangesOnly [.a] (cznvBits s.width) [] [] s t

theorem State.applyAlu_ends {s : State} (hs : s.wf) {r : AluResult} (hr : s.width.fits r.value = true) :
    AluEnds r s (s.applyAlu r) := by
  have flagged : ((s.setC r.carry).setV r.overflow).wf := (hs.setC _).setV _
  have written := flagged.setA r.value
  have value : (s.applyAlu r).a = r.value := Width.cell_toNat_of_fits hr
  refine ⟨value, ?carry, ?overflow, ?nz, ?frame⟩
  case carry =>
    exact (State.flagC_setNZ written _).trans ((State.flagC_setV (hs.setC _) _).trans (State.flagC_setC hs _))
  case overflow => exact (State.flagV_setNZ written _).trans (State.flagV_setV (hs.setC _) _)
  case nz =>
    rw [value]
    exact State.setNZ_nz written _
  case frame =>
    exact (((ChangesOnly.refl s).setC hs _ (by simp [cznvBits])).setV (hs.setC _) _ (by simp [cznvBits])).setA_setNZ
      flagged _ _ (List.mem_singleton_self _) (by simp [nzBits, cznvBits])

/-- Every case of ADC gives a cell value. -/
theorem State.fits_adcResult (s : State) (m : Word) : s.width.fits (s.adcResult m).value = true := by
  unfold State.adcResult
  split_ifs with hd hw
  · exact s.width.fits_cell _
  · rw [hw]
    unfold addDecimal8
    dsimp only
    split_ifs <;> exact Width.fits_cell _ _
  · exact s.width.fits_cell _

/-- Every case of SBC gives a cell value. -/
theorem State.fits_sbcResult (s : State) (m : Word) : s.width.fits (s.sbcResult m).value = true := by
  unfold State.sbcResult
  split_ifs with hd hw
  · exact s.width.fits_cell _
  · rw [hw]
    unfold subDecimal8
    dsimp only
    split_ifs <;> exact Width.fits_cellInt _ _
  · exact s.width.fits_cell _

/-- ADC answers the state that ends with its result on the operand's value, in every mode, width and case. -/
theorem exec_adc {i : Instr} {s : State} (hs : s.wf) (hi : i.wf s.width = true) (hm : i.mnemonic = .adc) :
    ∃ m t, s.operandValue i.operand = some m ∧ s.width.fits m = true ∧ exec i s = .next t ∧
      AluEnds (s.adcResult m) s t := by
  obtain ⟨value, fits⟩ := hs.alu_operand hi (by simp [hm])
  exact ⟨_, _, value, fits, exec_of_parts hm rfl s, State.applyAlu_ends hs (s.fits_adcResult _)⟩

/-- SBC answers the state that ends with its result on the operand's value, in every mode, width and case. -/
theorem exec_sbc {i : Instr} {s : State} (hs : s.wf) (hi : i.wf s.width = true) (hm : i.mnemonic = .sbc) :
    ∃ m t, s.operandValue i.operand = some m ∧ s.width.fits m = true ∧ exec i s = .next t ∧
      AluEnds (s.sbcResult m) s t := by
  obtain ⟨value, fits⟩ := hs.alu_operand hi (by simp [hm])
  exact ⟨_, _, value, fits, exec_of_parts hm rfl s, State.applyAlu_ends hs (s.fits_sbcResult _)⟩

/-- Settles O28: whatever the result, ADC and SBC end the same way. -/
theorem adcAndSbcCompleteInEveryMode : Obligations.AdcAndSbcCompleteInEveryMode := by
  unfold Obligations.AdcAndSbcCompleteInEveryMode
  refine ⟨rfl, rfl, fun i s hs hi hm => ?_⟩
  obtain hm | hm := hm
  · obtain ⟨m, t, -, -, ht, -, -, -, nz, frame⟩ := exec_adc hs hi hm
    exact ⟨t, ht, nz, frame⟩
  · obtain ⟨m, t, -, -, ht, -, -, -, nz, frame⟩ := exec_sbc hs hi hm
    exact ⟨t, ht, nz, frame⟩

/-- Settles O23: with D = 0 the result is the binary sum. -/
theorem binaryAdcAddsWithCarry : Obligations.BinaryAdcAddsWithCarry := by
  unfold Obligations.BinaryAdcAddsWithCarry
  intro i s hs hi hm hd
  obtain ⟨m, t, value, -, ht, ha, hc, hv, nz, frame⟩ := exec_adc hs hi hm
  have result : s.adcResult m = addBinary s.width s.a m s.flagC := if_pos hd
  rw [result] at ha hc hv
  refine ⟨m, t, value, ht, fun n hn => ⟨?_, ?_, hv.trans (addBinary_overflow _ _ _ _ hn)⟩, nz, frame⟩
  · rw [ha, hn]
    exact Width.toNat_cell _ _
  · rw [hc, hn]
    rfl

/-- Settles O24: with D = 0 the result is the binary sum with the complement, whose sign is the other one. -/
theorem binarySbcSubtractsWithBorrow : Obligations.BinarySbcSubtractsWithBorrow := by
  unfold Obligations.BinarySbcSubtractsWithBorrow
  intro i s hs hi hm hd
  obtain ⟨m, t, value, fits, ht, ha, hc, hv, nz, frame⟩ := exec_sbc hs hi hm
  have result : s.sbcResult m = addBinary s.width s.a (s.width.cell (s.width.dataMask - m.toNat)) s.flagC :=
    (if_pos hd).trans (subBinary_eq_addBinary _ _ fits)
  rw [result] at ha hc hv
  refine ⟨m, t, value, ht, fun n hn => ?_, nz, frame⟩
  obtain ⟨k, rfl⟩ : ∃ k : Nat, n = k := ⟨n.toNat, by have := Width.le_dataMask_of_fits fits; omega⟩
  have hk : k = s.a.toNat + (s.width.cell (s.width.dataMask - m.toNat)).toNat + bitNat s.flagC := by
    have := Width.le_dataMask_of_fits fits
    rw [Width.toNat_complement]
    omega
  refine ⟨?_, ?_, ?_⟩
  · rw [ha, ← Int.natCast_mod, Int.natCast_inj, hk]
    exact Width.toNat_cell _ _
  · rw [hc, hk]
    simp only [addBinary, ge_iff_le, Int.ofNat_le]
  · rw [hv, addBinary_overflow _ _ _ _ hk, Width.msb_complement fits]
    simp only [ge_iff_le, Int.ofNat_le, Int.ofNat_lt, Bool.eq_not, ← Nat.not_le, ite_not]

/-- Settles O27: with D = 1 at the wide widths the result is the open parameter's, reduced to a cell value. -/
theorem wideDecimalFollowsTheOpenParameter : Obligations.WideDecimalFollowsTheOpenParameter := by
  unfold Obligations.WideDecimalFollowsTheOpenParameter
  intro i s hs hi hw hd
  have decimal : ¬s.flagD = false := by simp [hd]
  refine ⟨fun hm => ?_, fun hm => ?_⟩
  · obtain ⟨m, t, value, -, ht, ha, hc, hv, nz, frame⟩ := exec_adc hs hi hm
    rw [State.adcResult, if_neg decimal, if_neg hw] at ha hc hv
    exact ⟨m, t, _, _, _, value, ht, rfl, ha ▸ Width.toNat_cell _ _, hc, hv, nz, frame⟩
  · obtain ⟨m, t, value, -, ht, ha, hc, hv, nz, frame⟩ := exec_sbc hs hi hm
    rw [State.sbcResult, if_neg decimal, if_neg hw] at ha hc hv
    exact ⟨m, t, _, _, _, value, ht, rfl, ha ▸ Width.toNat_cell _ _, hc, hv, nz, frame⟩

/-! Decimal addition and subtraction at dw = 8 (41_arithmetic_logic R143, R146). -/

theorem and_lowDigit (n : Nat) : n &&& 0x0F = n % 16 := Nat.and_two_pow_sub_one_eq_mod n 4

theorem and_highDigit : ∀ {n : Nat}, n < 256 → n &&& 0xF0 = n / 16 * 16 := by
  decide +kernel

theorem or_lowDigit (n : Nat) : 0x10 ||| n % 16 = 16 + n % 16 :=
  (Nat.two_pow_add_eq_or_of_lt (i := 4) (Nat.mod_lt n (by decide)) 1).symm

/-- The sign-bit test of the 8-bit algorithms. -/
theorem xor_and_0x80_eq_zero_iff (a m : Word) : (a ^^^ m).toNat &&& 0x80 = 0 ↔ Width.msb .w8 a = Width.msb .w8 m :=
  Width.xor_and_signBit_eq_zero_iff .w8 a m

/-- AddDecimal8 as numbers, for every operand (41_arithmetic_logic R143, 93_implementation_defined U1). -/
theorem addDecimal8_eq {a m : Word} {c : Bool} (ha : Width.fits .w8 a = true) (hm : Width.fits .w8 m = true)
    {lo0 lo n : Nat} (hlo0 : lo0 = a.toNat % 16 + m.toNat % 16 + bitNat c)
    (hlo : lo = if lo0 ≥ 10 then 16 + (lo0 + 6) % 16 else lo0)
    (hn : n = lo + a.toNat / 16 * 16 + m.toNat / 16 * 16) :
    (addDecimal8 a m c).value.toNat = (if n ≥ 160 then n + 0x60 else n) % 256 ∧
      (addDecimal8 a m c).carry = decide (n ≥ 160) ∧
      (addDecimal8 a m c).overflow = (decide (Width.msb .w8 a = Width.msb .w8 m) &&
        if n ≥ 160 then decide (n < 0x180) else decide (n ≥ 0x80)) := by
  simp only [addDecimal8, and_lowDigit, or_lowDigit, and_highDigit ((Width.fits_iff .w8 a).1 ha),
    and_highDigit ((Width.fits_iff .w8 m).1 hm), xor_and_0x80_eq_zero_iff, ← hlo0, ← hlo, ← hn, ← decide_not,
    ge_iff_le, Nat.not_lt, Nat.not_le]
  split_ifs with h
  · simp [h, Width.dw]
  · simp [Nat.lt_of_not_le h, Width.dw]

/-- SubDecimal8 as numbers, for every operand (41_arithmetic_logic R146, 93_implementation_defined U1). -/
theorem subDecimal8_eq {a m : Word} {c : Bool} (ha : Width.fits .w8 a = true) (hm : Width.fits .w8 m = true)
    {lo0 lo n : Int} (hlo0 : lo0 = 15 + (a.toNat % 16 : Nat) - (m.toNat % 16 : Nat) + bitNat c)
    (hlo : lo = if lo0 < 16 then lo0 - 6 else lo0 - 16)
    (hn : n = (if lo0 < 16 then 0 else 16) + 0xF0 + (a.toNat / 16 * 16 : Nat) - (m.toNat / 16 * 16 : Nat)) :
    ((subDecimal8 a m c).value.toNat : Int) = ((if n < 0x100 then n - 0x60 else n) + lo) % 256 ∧
      (subDecimal8 a m c).carry = decide (n ≥ 0x100) ∧
      (subDecimal8 a m c).overflow = (decide (Width.msb .w8 a ≠ Width.msb .w8 m) &&
        if n < 0x100 then decide (n ≥ 0x80) else decide (n < 0x180)) := by
  simp only [subDecimal8, and_lowDigit, and_highDigit ((Width.fits_iff .w8 a).1 ha),
    and_highDigit ((Width.fits_iff .w8 m).1 hm), ne_eq, xor_and_0x80_eq_zero_iff, ← hlo0, ← hlo, ← hn,
    ← decide_not, ge_iff_le, Int.not_lt, Int.not_le]
  split_ifs with h
  · simp [h, Width.toNat_cellInt, Width.dw]
  · simp [Int.le_of_not_gt h, Width.toNat_cellInt, Width.dw]

/-- The BCD cell of a number with given decimal digits. -/
theorem bcd_of_digits {n t u : Nat} (hn : n = 10 * t + u) (hu : u < 10) : n / 10 * 16 + n % 10 = 16 * t + u := by
  omega

/-- Adding the digits of two decimal numbers: the low sum is a digit `u` and a carry `k` of 16 into the high digits,
whose sum above 9 is the decimal carry (41_arithmetic_logic R143). -/
theorem bcd_add {x y c lo0 lo n : Nat} (hx : x < 100) (hy : y < 100) (hc : c ≤ 1) (hlo0 : lo0 = x % 10 + y % 10 + c)
    (hlo : lo = if lo0 ≥ 10 then 16 + (lo0 + 6) % 16 else lo0) (hn : n = lo + x / 10 * 16 + y / 10 * 16) :
    (if n ≥ 160 then n + 0x60 else n) % 256 = (x + y + c) % 100 / 10 * 16 + (x + y + c) % 100 % 10 ∧
      (n ≥ 160 ↔ x + y + c ≥ 100) := by
  obtain ⟨k, u, hk, hu, hlo0', hlo'⟩ : ∃ k u, k ≤ 1 ∧ u < 10 ∧ lo0 = 10 * k + u ∧ lo = 16 * k + u := by
    split_ifs at hlo
    · exact ⟨1, lo0 - 10, by omega, by omega, by omega, by omega⟩
    · exact ⟨0, lo0, by omega, by omega, by omega, by omega⟩
  clear hlo
  split_ifs with high
  · rw [bcd_of_digits (t := x / 10 + y / 10 + k - 10) (u := u) (by omega) hu]
    omega
  · rw [bcd_of_digits (t := x / 10 + y / 10 + k) (u := u) (by omega) hu]
    omega

/-- Subtracting the digits of two decimal numbers: the low difference is a digit `u` and a borrow `k` of 16 from the
high digits, whose difference below 0 is the decimal borrow (41_arithmetic_logic R146). -/
theorem bcd_sub {x y c : Nat} {lo0 lo n : Int} (hx : x < 100) (hy : y < 100) (hc : c ≤ 1)
    (hlo0 : lo0 = 15 + (x % 10 : Nat) - (y % 10 : Nat) + c)
    (hlo : lo = if lo0 < 16 then lo0 - 6 else lo0 - 16)
    (hn : n = (if lo0 < 16 then 0 else 16) + 0xF0 + (x / 10 * 16 : Nat) - (y / 10 * 16 : Nat)) :
    ((if n < 0x100 then n - 0x60 else n) + lo) % 256 =
        ((x + 100 - y - (1 - c)) % 100 / 10 * 16 + (x + 100 - y - (1 - c)) % 100 % 10 : Nat) ∧
      (n ≥ 0x100 ↔ x ≥ y + (1 - c)) := by
  obtain ⟨k, u, hk, hu, hlo0', hlo', hn'⟩ : ∃ k u : Nat, k ≤ 1 ∧ u < 10 ∧ lo0 = 16 + u - 10 * k ∧
      lo = u ∧ n = 256 - 16 * k + (x / 10 * 16 : Nat) - (y / 10 * 16 : Nat) := by
    split_ifs at hlo hn
    · exact ⟨1, (lo0 - 6).toNat, by omega, by omega, by omega, by omega, by omega⟩
    · exact ⟨0, (lo0 - 16).toNat, by omega, by omega, by omega, by omega, by omega⟩
  clear hlo hn
  split_ifs with high
  · rw [bcd_of_digits (t := x / 10 + 10 - y / 10 - k) (u := u) (by omega) hu]
    omega
  · rw [bcd_of_digits (t := x / 10 - y / 10 - k) (u := u) (by omega) hu]
    omega

/-- The digits of a BCD cell are its halves. -/
theorem halves_of_bcd {b x : Nat} (h : b = x / 10 * 16 + x % 10) : b % 16 = x % 10 ∧ b / 16 = x / 10 := by
  omega

section BcdOperands
variable {a m : Word} (ha : Width.fits .w8 a = true) (hm : Width.fits .w8 m = true) {x y : Nat} (hx : x < 100)
  (hy : y < 100) (hax : a.toNat = x / 10 * 16 + x % 10) (hmy : m.toNat = y / 10 * 16 + y % 10) (c : Bool)
include ha hm hx hy hax hmy

/-- AddDecimal8 on BCD operands adds the decimal numbers (41_arithmetic_logic R143). -/
theorem addDecimal8_bcd :
    (addDecimal8 a m c).value.toNat = (x + y + bitNat c) % 100 / 10 * 16 + (x + y + bitNat c) % 100 % 10 ∧
      (addDecimal8 a m c).carry = decide (x + y + bitNat c ≥ 100) := by
  obtain ⟨al, ah⟩ := halves_of_bcd hax
  obtain ⟨ml, mh⟩ := halves_of_bcd hmy
  obtain ⟨value, carry, -⟩ := addDecimal8_eq (c := c) ha hm rfl rfl rfl
  rw [al, ah, ml, mh] at value carry
  obtain ⟨digits, hundred⟩ := bcd_add hx hy (bitNat_le c) rfl rfl rfl
  exact ⟨value.trans digits, carry.trans (decide_eq_decide.2 hundred)⟩

/-- SubDecimal8 on BCD operands subtracts the decimal numbers (41_arithmetic_logic R146). -/
theorem subDecimal8_bcd :
    (subDecimal8 a m c).value.toNat =
        (x + 100 - y - (1 - bitNat c)) % 100 / 10 * 16 + (x + 100 - y - (1 - bitNat c)) % 100 % 10 ∧
      (subDecimal8 a m c).carry = decide (x ≥ y + (1 - bitNat c)) := by
  obtain ⟨al, ah⟩ := halves_of_bcd hax
  obtain ⟨ml, mh⟩ := halves_of_bcd hmy
  obtain ⟨value, carry, -⟩ := subDecimal8_eq (c := c) ha hm rfl rfl rfl
  rw [al, ah, ml, mh] at value carry
  obtain ⟨digits, noBorrow⟩ := bcd_sub hx hy (bitNat_le c) rfl rfl rfl
  exact ⟨Int.ofNat_inj.1 (value.trans digits), carry.trans (decide_eq_decide.2 noBorrow)⟩

end BcdOperands

theorem State.adcResult_decimal8 {s : State} (hw : s.width = .w8) (hd : s.flagD = true) (m : Word) :
    s.adcResult m = addDecimal8 s.a m s.flagC := by
  simp [State.adcResult, hw, hd]

theorem State.sbcResult_decimal8 {s : State} (hw : s.width = .w8) (hd : s.flagD = true) (m : Word) :
    s.sbcResult m = subDecimal8 s.a m s.flagC := by
  simp [State.sbcResult, hw, hd]

/-- Settles O26: with D = 1 at dw = 8 the results are the 8-bit algorithms', as numbers; for BCD operands their digits
are those of the decimal sum or difference. -/
theorem decimalModeAddsBcdDigits : Obligations.DecimalModeAddsBcdDigits := by
  unfold Obligations.DecimalModeAddsBcdDigits
  refine ⟨fun i s hs hi hw hd => ⟨fun hm => ?_, fun hm => ?_⟩,
    fun i s a m hs hi hw hd ha hm hsa hsm => ⟨fun hmn => ?_, fun hmn => ?_⟩⟩
  · obtain ⟨m, t, value, fits, ht, va, vc, vv, nz, frame⟩ := exec_adc hs hi hm
    rw [State.adcResult_decimal8 hw hd] at va vc vv
    refine ⟨m, t, value, ht, fun lo0 lo n h0 h1 h2 => ?_, nz, frame⟩
    rw [va, vc, vv, hw]
    exact addDecimal8_eq (hw ▸ hs.fits_a) (hw ▸ fits) h0 h1 h2
  · obtain ⟨m, t, value, fits, ht, va, vc, vv, nz, frame⟩ := exec_sbc hs hi hm
    rw [State.sbcResult_decimal8 hw hd] at va vc vv
    refine ⟨m, t, value, ht, fun lo0 lo n h0 h1 h2 => ?_, nz, frame⟩
    rw [va, vc, vv, hw]
    exact subDecimal8_eq (hw ▸ hs.fits_a) (hw ▸ fits) h0 h1 h2
  · obtain ⟨v, t, value, fits, ht, va, vc, -, nz, frame⟩ := exec_adc hs hi hmn
    rw [value, Option.map_some, Option.some.injEq] at hsm
    obtain ⟨digits, carry⟩ := addDecimal8_bcd (hw ▸ hs.fits_a) (hw ▸ fits) ha hm hsa hsm s.flagC
    rw [State.adcResult_decimal8 hw hd] at va vc
    exact ⟨t, _, ht, rfl, va ▸ digits, vc.trans carry, nz, frame⟩
  · obtain ⟨v, t, value, fits, ht, va, vc, -, nz, frame⟩ := exec_sbc hs hi hmn
    rw [value, Option.map_some, Option.some.injEq] at hsm
    obtain ⟨digits, carry⟩ := subDecimal8_bcd (hw ▸ hs.fits_a) (hw ▸ fits) ha hm hsa hsm s.flagC
    rw [State.sbcResult_decimal8 hw hd] at va vc
    exact ⟨t, _, ht, rfl, va ▸ digits, vc.trans carry, nz, frame⟩

/-! Logic (41_arithmetic_logic R148 to R150). -/

/-- Settles O29: the result of two cell values is a cell value, which A takes. -/
theorem logicCombinesWithA : Obligations.LogicCombinesWithA := by
  unfold Obligations.LogicCombinesWithA
  refine ⟨rfl, rfl, rfl, fun i s hs hi => ?_⟩
  have takes {v : Word} (hv : s.width.fits v = true) : ((s.setA v).setNZ v).a = v ∧
      NZFrom ((s.setA v).setNZ v).a s ((s.setA v).setNZ v) ∧
      ChangesOnly [.a] (nzBits s.width) [] [] s ((s.setA v).setNZ v) := by
    obtain ⟨taken, nz, frame⟩ := setA_setNZ_takes hs hv
    exact ⟨taken, taken.symm ▸ nz, frame⟩
  refine ⟨fun hm => ?_, fun hm => ?_, fun hm => ?_⟩
  · obtain ⟨value, fits⟩ := hs.alu_operand hi (by simp [hm])
    exact ⟨_, _, value, exec_of_parts hm rfl s, takes (Width.fits_and hs.fits_a)⟩
  · obtain ⟨value, fits⟩ := hs.alu_operand hi (by simp [hm])
    exact ⟨_, _, value, exec_of_parts hm rfl s, takes (Width.fits_or hs.fits_a fits)⟩
  · obtain ⟨value, fits⟩ := hs.alu_operand hi (by simp [hm])
    exact ⟨_, _, value, exec_of_parts hm rfl s, takes (Width.fits_xor hs.fits_a fits)⟩

/-! Compares (41_arithmetic_logic R151 to R154). -/

/-- What a comparison leaves, for two cell values (41_arithmetic_logic R151). -/
theorem State.compare_spec {s : State} (hs : s.wf) {r m : Word} (hr : s.width.fits r = true)
    (hm : s.width.fits m = true) :
    (s.compare r m).flagC = decide (r.toNat ≥ m.toNat) ∧ (s.compare r m).flagZ = decide (r = m) ∧
      (s.compare r m).flagN =
        decide ((2 ^ (s.width.dw - 1) : Nat) ≤ ((r.toNat : Int) - m.toNat) % (2 ^ s.width.dw : Nat)) ∧
      ChangesOnly [] [0, 1, s.width.dw - 1] [] [] s (s.compare r m) := by
  have carried := hs.setC (decide (r.toNat ≥ m.toNat))
  obtain ⟨z, n⟩ := State.setNZ_nz carried (s.width.cellInt ((r.toNat : Int) - m.toNat))
  refine ⟨(State.flagC_setNZ carried _).trans (State.flagC_setC hs _), ?_, n.trans ?_, ?_⟩
  · exact z.trans (decide_eq_decide.2 (Width.cellInt_sub_eq_zero_iff hr hm))
  · rw [← Width.toNat_cellInt]
    exact (Width.msb_eq (s.width.fits_cellInt _)).trans (decide_eq_decide.2 Int.ofNat_le.symm)
  · exact ((ChangesOnly.refl s).setC hs _ (by simp)).setNZ carried _ (by simp) (by simp)

/-- Settles O30: the three mnemonics compare their register, a cell value, with the operand's value. -/
theorem comparesSetOnlyFlags : Obligations.ComparesSetOnlyFlags := by
  unfold Obligations.ComparesSetOnlyFlags
  refine ⟨rfl, rfl, rfl, fun i s r hs hi hr => ?_⟩
  obtain ⟨hm, rfl⟩ | ⟨hm, rfl⟩ | ⟨hm, rfl⟩ := hr
  · obtain ⟨value, fits⟩ := hs.alu_operand hi (by simp [hm])
    exact ⟨_, _, value, exec_of_parts hm rfl s, State.compare_spec hs hs.fits_a fits⟩
  · obtain ⟨value, fits⟩ := hs.alu_operand hi (by simp [hm])
    exact ⟨_, _, value, exec_of_parts hm rfl s, State.compare_spec hs hs.fits_x fits⟩
  · obtain ⟨value, fits⟩ := hs.alu_operand hi (by simp [hm])
    exact ⟨_, _, value, exec_of_parts hm rfl s, State.compare_spec hs hs.fits_y fits⟩

/-! The bit test (41_arithmetic_logic R155). -/

/-- Settles O31: N, V and Z are written in that order, each at a bit of its own. -/
theorem bitTestsWithoutChangingA : Obligations.BitTestsWithoutChangingA := by
  unfold Obligations.BitTestsWithoutChangingA
  refine ⟨rfl, fun i s hs hi hm => ?_⟩
  obtain ⟨o, ho⟩ := Operand.exists_eq_mem (encodings_bit _ (hm ▸ Instr.opcode_mem_encodings i))
  have wroteN := hs.setN (s.width.msb (s.load o))
  have wroteV := wroteN.setV (s.width.msb2 (s.load o))
  refine ⟨o, _, ho, exec_of_parts hm ho s, ?n, ?v, State.flagZ_setZ wroteV _, ?frame⟩
  case n => exact (State.flagN_setZ wroteV _).trans ((State.flagN_setV wroteN _).trans (State.flagN_setN hs _))
  case v => exact (State.flagV_setZ wroteV _).trans (State.flagV_setV wroteN _)
  case frame =>
    exact (((ChangesOnly.refl s).setN hs _ (by simp)).setV wroteN _ (by simp)).setZ wroteV _ (by simp)

end Sys2Proof.Machine
end

section
/-! PROOFS. The increment, decrement and shift family: a cell rewritten with N and Z set from its new value, the rule
each shift or rotate follows on cell values, and what the two forms of a shift leave. -/

namespace Sys2Proof.Machine

/-! The operands of the family (30_encoding R87, R88, R90, R91, R97). -/

/-- Every row of the table for INC and DEC has a memory mode (42_inc_dec_shift R160, R161). -/
theorem encodings_incDec : ∀ m ∈ [Mnemonic.inc, .dec], ∀ e ∈ encodings m, e.1 ∉ [.single, .imm, .ind, .rel] := by
  decide +kernel

/-! One cell takes a value, and N and Z are set from it (42_inc_dec_shift R170). -/

theorem State.flagC_store (s : State) (a : Nat) (v : Word) : (s.store a v).flagC = s.flagC := by
  rw [State.flagC, State.store_p, State.flagC]

/-- A store of a cell value and `SetNZ` of it, after changes the frame already allows: the value reads back, N and Z
are its own, and the frame gains one event. -/
theorem store_setNZ_of_changesOnly {regs : List Reg} {bits cells : List Nat} {events : List Event} {s t : State}
    (h : ChangesOnly regs bits cells events s t) (ht : t.wf) {a : Nat} {v : Word} (hv : s.width.fits v = true)
    (ha : a < 2 ^ s.width.aw) (hc : a ∈ cells) (hb : nzBits s.width ⊆ bits) :
    ((t.store a v).setNZ v).read a = v ∧ NZFrom v s ((t.store a v).setNZ v) ∧
      ChangesOnly regs bits cells (.onMemoryWrite a v :: events) s ((t.store a v).setNZ v) := by
  have kept : s.width.cell v.toNat = v := Width.cell_toNat_of_fits hv
  have stored : (t.store a v).wf := ht.store (h.width_eq ▸ ha) v
  have frame := h.store_setNZ ht v v hc hb
  rw [kept] at frame
  refine ⟨?_, ?_, frame⟩
  · rw [State.setNZ_read, State.read_store ht.rising, if_pos rfl, h.width_eq, kept]
  · obtain ⟨z, n⟩ := State.setNZ_nz stored v
    rw [State.store_width, h.width_eq] at n
    exact ⟨z, n⟩

/-- Settles O32: the new value, reduced to a cell value, is stored at the operand's address, inside the address space. -/
theorem incAndDecRewriteOneCell : Obligations.IncAndDecRewriteOneCell := by
  unfold Obligations.IncAndDecRewriteOneCell
  refine ⟨rfl, rfl, fun i s d hs hi hm => ?_⟩
  have address (hm : i.mnemonic ∈ [.inc, .dec]) : ∃ o, i.operand = .mem o :=
    Operand.exists_eq_mem (encodings_incDec _ hm _ (Instr.opcode_mem_encodings i))
  have rewritten {o : MemOperand} (ho : i.operand = .mem o) {r : Word} (hr : s.width.fits r = true) :=
    store_setNZ_of_changesOnly (regs := []) (.refl s) hs hr (Instr.wf_ea_lt hi ho) (List.mem_singleton_self _)
      (List.Subset.refl _)
  obtain ⟨hm, rfl⟩ | ⟨hm, rfl⟩ := hm
  · obtain ⟨o, ho⟩ := address (by simp [hm])
    refine ⟨o, _, _, ho, exec_of_parts hm ho s, ?_, rewritten ho (s.width.fits_cell _)⟩
    rw [Width.toNat_cell, Int.natCast_mod, Int.natCast_add, Int.natCast_one]
    rfl
  · obtain ⟨o, ho⟩ := address (by simp [hm])
    exact ⟨o, _, _, ho, exec_of_parts hm ho s, Width.toNat_cellInt _ _, rewritten ho (s.width.fits_cellInt _)⟩

/-! Index counts (42_inc_dec_shift R162 to R165). -/

/-- Settles O33: the count, reduced to a cell value, is what the index register takes. -/
theorem indexCountsWrap : Obligations.IndexCountsWrap := by
  unfold Obligations.IndexCountsWrap
  refine ⟨rfl, rfl, rfl, rfl, fun s hs => ?_⟩
  have up (v : Word) : s.width.fits (s.incremented v) = true := s.width.fits_cell _
  have down (v : Word) : s.width.fits (s.decremented v) = true := s.width.fits_cellInt _
  refine ⟨?inx, ?iny, ?dex, ?dey⟩
  case inx =>
    obtain ⟨taken, nz, frame⟩ := setX_setNZ_takes hs (up s.x)
    refine ⟨_, rfl, ?_⟩
    rw [taken]
    exact ⟨Width.toNat_cell _ _, nz, frame⟩
  case iny =>
    obtain ⟨taken, nz, frame⟩ := setY_setNZ_takes hs (up s.y)
    refine ⟨_, rfl, ?_⟩
    rw [taken]
    exact ⟨Width.toNat_cell _ _, nz, frame⟩
  case dex =>
    obtain ⟨taken, nz, frame⟩ := setX_setNZ_takes hs (down s.x)
    refine ⟨_, rfl, ?_⟩
    rw [taken]
    exact ⟨Width.toNat_cellInt _ _, nz, frame⟩
  case dey =>
    obtain ⟨taken, nz, frame⟩ := setY_setNZ_takes hs (down s.y)
    refine ⟨_, rfl, ?_⟩
    rw [taken]
    exact ⟨Width.toNat_cellInt _ _, nz, frame⟩

/-! The rules of the shifts and rotates (42_inc_dec_shift R166 to R169). -/

/-- On cell values `f` gives a cell value, and its results are those of the rule of `mn`. -/
def FollowsShiftRule (f : Width → Word → Bool → Word × Bool) (mn : Mnemonic) : Prop :=
  ∀ (w : Width) (m : Word) (c : Bool), w.fits m = true →
    w.fits (f w m c).1 = true ∧ ((f w m c).1.toNat, (f w m c).2) = shiftRule w mn m.toNat c

/-- Half of a cell value is below the sign bit. -/
theorem Width.half_lt_signBit {w : Width} {m : Word} (h : w.fits m = true) : m.toNat / 2 < 2 ^ (w.dw - 1) := by
  have := (w.fits_iff m).1 h
  have := w.two_mul_signBit
  omega

theorem Width.toNat_cell_half {w : Width} {m : Word} (h : w.fits m = true) :
    (w.cell (m.toNat / 2)).toNat = m.toNat / 2 := by
  rw [Width.toNat_cell, Nat.mod_eq_of_lt (Nat.lt_of_le_of_lt (Nat.div_le_self _ _) ((w.fits_iff m).1 h))]

theorem aslResult_followsRule : FollowsShiftRule aslResult .asl := fun w _ _ hm =>
  ⟨w.fits_cell _, Prod.ext (w.toNat_cell _) (Width.msb_eq hm)⟩

theorem lsrResult_followsRule : FollowsShiftRule lsrResult .lsr := fun w m _ hm =>
  ⟨w.fits_cell _, Prod.ext (Width.toNat_cell_half hm) (Nat.testBit_zero m.toNat)⟩

/-- The doubled value is even, so the carry enters a clear bit 0. -/
theorem rolResult_followsRule : FollowsShiftRule rolResult .rol := by
  intro w m c hm
  refine ⟨Width.fits_or (w.fits_cell _) (w.fits_cell _), Prod.ext ?_ (Width.msb_eq hm)⟩
  have hc := bitNat_le c
  have carry : bitNat c % 2 ^ w.dw = bitNat c := by
    have := w.two_mul_signBit
    have := w.pow_dw_pos
    exact Nat.mod_eq_of_lt (by omega)
  have doubled : m.toNat * 2 % 2 ^ w.dw = 2 ^ 1 * (m.toNat % 2 ^ (w.dw - 1)) := by
    rw [← w.two_mul_signBit, Nat.mul_comm, Nat.mul_mod_mul_left, pow_one]
  calc (w.cell (m.toNat * 2) ||| w.cell (bitNat c)).toNat
      = 2 ^ 1 * (m.toNat % 2 ^ (w.dw - 1)) ||| bitNat c := by
        rw [BitVec.toNat_or, Width.toNat_cell, Width.toNat_cell, carry, doubled]
    _ = m.toNat * 2 % 2 ^ w.dw + bitNat c := by
        rw [← Nat.two_pow_add_eq_or_of_lt (by omega), doubled]

/-- The halved value is below the sign bit, where the carry enters. -/
theorem rorResult_followsRule : FollowsShiftRule rorResult .ror := by
  intro w m c hm
  refine ⟨Width.fits_or (w.fits_cell _) (w.fits_cell _), Prod.ext ?_ (Nat.testBit_zero m.toNat)⟩
  have carry : (w.cell (bitNat c * w.signBit)).toNat = 2 ^ (w.dw - 1) * bitNat c := by
    have bound : 2 ^ (w.dw - 1) * bitNat c ≤ 2 ^ (w.dw - 1) * 1 := Nat.mul_le_mul_left _ (bitNat_le c)
    have := w.two_mul_signBit
    have := w.pow_dw_pos
    rw [Width.toNat_cell, Width.signBit, Nat.mul_comm]
    exact Nat.mod_eq_of_lt (by omega)
  calc (w.cell (m.toNat / 2) ||| w.cell (bitNat c * w.signBit)).toNat
      = 2 ^ (w.dw - 1) * bitNat c ||| m.toNat / 2 := by
        rw [BitVec.toNat_or, Width.toNat_cell_half hm, carry, Nat.or_comm]
    _ = m.toNat / 2 + bitNat c * 2 ^ (w.dw - 1) := by
        rw [← Nat.two_pow_add_eq_or_of_lt (Width.half_lt_signBit hm), Nat.add_comm, Nat.mul_comm]

/-- Each of the four mnemonics runs a function that follows its rule. -/
theorem effect_eq_shiftEffect {mn : Mnemonic} (hm : mn = .asl ∨ mn = .lsr ∨ mn = .rol ∨ mn = .ror) :
    ∃ f, FollowsShiftRule f mn ∧ ∀ o s, effect mn o s = shiftEffect f o s := by
  obtain rfl | rfl | rfl | rfl := hm
  · exact ⟨_, aslResult_followsRule, fun _ _ => rfl⟩
  · exact ⟨_, lsrResult_followsRule, fun _ _ => rfl⟩
  · exact ⟨_, rolResult_followsRule, fun _ _ => rfl⟩
  · exact ⟨_, rorResult_followsRule, fun _ _ => rfl⟩

/-! What the two forms leave: C is written first, then the result, then N and Z from it. -/

section Forms
variable {s : State} (hs : s.wf) {f : Width → Word → Bool → Word × Bool} {mn : Mnemonic} (hf : FollowsShiftRule f mn)
include hs hf

theorem shiftA_spec :
    ((shiftA f s).a.toNat, (shiftA f s).flagC) = shiftRule s.width mn s.a.toNat s.flagC ∧
      NZFrom (shiftA f s).a s (shiftA f s) ∧
      ChangesOnly [.a] [0, 1, s.width.dw - 1] [] [] s (shiftA f s) := by
  obtain ⟨fits, rule⟩ := hf s.width s.a s.flagC hs.fits_a
  have carried := hs.setC (f s.width s.a s.flagC).2
  have written := carried.setA (f s.width s.a s.flagC).1
  have value : (shiftA f s).a = (f s.width s.a s.flagC).1 := Width.cell_toNat_of_fits fits
  have carry : (shiftA f s).flagC = (f s.width s.a s.flagC).2 :=
    (State.flagC_setNZ written _).trans (State.flagC_setC hs _)
  rw [value, carry]
  exact ⟨rule, State.setNZ_nz written _, ((ChangesOnly.refl s).setC hs _ (by simp)).setA_setNZ carried _ _
    (List.mem_singleton_self _) (by simp [nzBits])⟩

theorem shiftMem_spec {a : Nat} (ha : a < 2 ^ s.width.aw) :
    (((shiftMem f s a).read a).toNat, (shiftMem f s a).flagC) = shiftRule s.width mn (s.read a).toNat s.flagC ∧
      NZFrom ((shiftMem f s a).read a) s (shiftMem f s a) ∧
      ChangesOnly [] [0, 1, s.width.dw - 1] [a] [.onMemoryWrite a ((shiftMem f s a).read a)] s (shiftMem f s a) := by
  obtain ⟨fits, rule⟩ := hf s.width (s.read a) s.flagC (hs.fits_read a)
  have carried := hs.setC (f s.width (s.read a) s.flagC).2
  have carry : (shiftMem f s a).flagC = (f s.width (s.read a) s.flagC).2 :=
    (State.flagC_setNZ (carried.store ha _) _).trans ((State.flagC_store _ _ _).trans (State.flagC_setC hs _))
  obtain ⟨value, nz, frame⟩ := store_setNZ_of_changesOnly (regs := []) (bits := [0, 1, s.width.dw - 1])
    ((ChangesOnly.refl s).setC hs _ (by simp)) carried fits ha (List.mem_singleton_self a) (by simp [nzBits])
  have value : (shiftMem f s a).read a = (f s.width (s.read a) s.flagC).1 := value
  rw [value, carry]
  exact ⟨rule, nz, frame⟩

end Forms

/-- Settles O34: the mnemonic's function follows its rule, on A in the single form and on the cell at the operand's
address in the memory forms. -/
theorem shiftsAndRotates : Obligations.ShiftsAndRotates := by
  unfold Obligations.ShiftsAndRotates
  refine ⟨rfl, rfl, rfl, rfl, fun i s hs ho hm => ?single, fun i s o hs hi ho hm => ?memory⟩
  case single =>
    obtain ⟨f, rule, run⟩ := effect_eq_shiftEffect hm
    exact ⟨shiftA f s, (exec_of_parts rfl ho s).trans (congrArg _ (run _ _)), shiftA_spec hs rule⟩
  case memory =>
    obtain ⟨f, rule, run⟩ := effect_eq_shiftEffect hm
    exact ⟨shiftMem f s (s.ea o), (exec_of_parts rfl ho s).trans (congrArg _ (run _ _)),
      shiftMem_spec hs rule (Instr.wf_ea_lt hi ho)⟩

end Sys2Proof.Machine
end

section
/-! PROOFS. The control family: SP after pushes and pops as a number, the spec of JMP, JSR, RTS, RTI, of the branches
and of the halting instructions, and that RTS undoes JSR. -/

namespace Sys2Proof

/-- Counting down and up again modulo `m`. -/
theorem pred_mod_add_one_mod {n m : Nat} (h : n < m) : ((n + m - 1) % m + 1) % m = n := by
  have back : n + m - 1 + 1 = n + m := by omega
  rw [Nat.mod_add_mod, back, Nat.add_mod_right, Nat.mod_eq_of_lt h]

theorem Width.two_le_pow_dw (w : Width) : 2 ≤ 2 ^ w.dw := by cases w <;> decide

/-- Adding AM to an address subtracts 1 (00_scope R12). -/
theorem Width.addr_add_addrMask (w : Width) (n : Nat) : w.addr (n + w.addrMask) = (n + 2 ^ w.aw - 1) % 2 ^ w.aw := by
  rw [w.addrMask_eq, ← Nat.add_sub_assoc w.pow_aw_pos]
  rfl

/-- `v OR 0x30` of a cell value is one (10_state R29). -/
theorem Width.fits_withB {w : Width} {v : Word} (h : w.fits v = true) : w.fits (Machine.withB v) = true :=
  Width.fits_or h (by cases w <;> decide)

end Sys2Proof

namespace Sys2Proof.Machine

/-! Where PC and SP come to stand, as numbers (10_state R26, R32 to R34). -/

/-- A jump to an address reaches it. -/
theorem State.setPc_pc_toNat {s : State} {n : Nat} (h : n < 2 ^ s.width.aw) : (s.setPc n).pc.toNat = n := by
  rw [State.setPc_pc, Width.toNat_addrWord, Width.addr_of_lt h]

theorem State.push_sp_toNat {s : State} (h : s.wf) (v : Word) :
    (s.push v).sp.toNat = (s.sp.toNat + 2 ^ s.width.dw - 1) % 2 ^ s.width.dw := by
  have pos := s.width.pow_dw_pos
  have shifted : ((s.sp.toNat : Int) - 1) % (2 ^ s.width.dw : Nat) =
      ((s.sp.toNat + 2 ^ s.width.dw - 1 : Nat) : Int) % (2 ^ s.width.dw : Nat) := by
    rw [← Int.add_emod_right]
    congr 1
    omega
  apply Int.ofNat_inj.1
  rw [State.push_sp h, Width.toNat_cellInt, shifted, Int.natCast_mod]

theorem State.popAdvance_sp_toNat {s : State} (h : s.wf) :
    s.popAdvance.sp.toNat = (s.sp.toNat + 1) % 2 ^ s.width.dw := by
  rw [State.popAdvance_sp h, Width.toNat_cell]

/-- The popped cell: the one at SP as the pop leaves it (10_state R34). -/
theorem State.pop_fst_eq_read (s : State) : s.pop.1 = s.read (s.width.stackBase + s.popAdvance.sp.toNat) := by
  rw [State.pop, State.popAdvance_read, State.stackAddr, State.popAdvance_width]

/-! Jumps (43_control R180). -/

/-- Settles O35: both targets are words of two cells, so addresses, and PC alone is written. -/
theorem jumpsSetPc : Obligations.JumpsSetPc := by
  unfold Obligations.JumpsSetPc
  refine ⟨rfl, fun s lo hi _ => ?_⟩
  have jumped (n : Nat) : ChangesOnly [.pc] [] [] [] s (s.setPc n) :=
    (ChangesOnly.refl s).setPc n (List.mem_singleton_self _)
  exact ⟨⟨_, rfl, State.setPc_pc_toNat (s.width.word_lt _ _), jumped _⟩,
    _, _, rfl, rfl, State.setPc_pc_toNat (s.width.word_lt _ _), jumped _⟩

/-! Subroutines (43_control R181, R182). -/

/-- Two decrements modulo `2^dw` are one by 2. -/
theorem Width.decrement_decrement (w : Width) (n : Nat) :
    ((n + 2 ^ w.dw - 1) % 2 ^ w.dw + 2 ^ w.dw - 1) % 2 ^ w.dw = (n + 2 ^ w.dw - 2) % 2 ^ w.dw := by
  have large := w.two_le_pow_dw
  rw [Nat.add_sub_assoc w.pow_dw_pos, Nat.mod_add_mod, ← Nat.add_mod_right (n + 2 ^ w.dw - 2)]
  congr 1
  omega

/-- The cell a second push writes is another one: SP has changed (10_state R33). -/
theorem State.stackAddr_push_ne {s : State} (h : s.wf) (v : Word) : (s.push v).stackAddr ≠ s.stackAddr := by
  intro same
  have sp_lt := (s.width.fits_iff _).1 h.fits_sp
  have kept : (s.push v).sp.toNat = s.sp.toNat := by
    rw [State.stackAddr, State.stackAddr, State.push_width] at same
    omega
  have large := s.width.two_le_pow_dw
  have back := pred_mod_add_one_mod sp_lt
  rw [← State.push_sp_toNat h v, kept] at back
  obtain below | last : s.sp.toNat + 1 < 2 ^ s.width.dw ∨ s.sp.toNat + 1 = 2 ^ s.width.dw := by omega
  · rw [Nat.mod_eq_of_lt below] at back
    omega
  · rw [last, Nat.mod_self] at back
    omega

/-- The return address is `(PC - 1) AND AM`, an address (43_control R181). -/
theorem State.jsrReturn_eq (s : State) :
    s.jsrReturn = (s.pc.toNat + 2 ^ s.width.aw - 1) % 2 ^ s.width.aw :=
  s.width.addr_add_addrMask _

theorem State.jsrReturn_lt (s : State) : s.jsrReturn < 2 ^ s.width.aw := s.width.addr_lt _

section Subroutines
variable {s : State} (hs : s.wf) (target : Nat)
include hs

/-- JSR leaves the high limb of the return address in the cell SP named. -/
theorem jsr_read_high : (jsr s target).read s.stackAddr = s.width.hi s.jsrReturn := by
  rw [jsr, State.setPc_read, State.read_push (hs.push _), if_neg (State.stackAddr_push_ne hs _).symm,
    State.read_push hs, if_pos rfl]
  exact s.width.cell_cell _

/-- JSR leaves the low limb of the return address in the cell below. -/
theorem jsr_read_low :
    (jsr s target).read (s.push (s.width.hi s.jsrReturn)).stackAddr = s.width.lo s.jsrReturn := by
  rw [jsr, State.setPc_read, State.read_push (hs.push _), if_pos rfl, State.push_width]
  exact s.width.cell_cell _

theorem jsr_sp_toNat : (jsr s target).sp.toNat = (s.sp.toNat + 2 ^ s.width.dw - 2) % 2 ^ s.width.dw := by
  rw [jsr, State.setPc_sp, State.push_sp_toNat (hs.push _), State.push_sp_toNat hs, State.push_width,
    Width.decrement_decrement]

/-- The frame of JSR, each event with the limb its push writes. -/
theorem jsr_changesOnly :
    ChangesOnly [.sp, .pc] [] [s.stackAddr, (s.push (s.width.hi s.jsrReturn)).stackAddr]
      ((if (s.push (s.width.hi s.jsrReturn)).sp = 0 then [Event.warning .push] else []) ++
        .onMemoryWrite (s.push (s.width.hi s.jsrReturn)).stackAddr (s.width.lo s.jsrReturn) ::
        ((if s.sp = 0 then [Event.warning .push] else []) ++ [.onMemoryWrite s.stackAddr (s.width.hi s.jsrReturn)]))
      s (jsr s target) := by
  have frame := (((ChangesOnly.refl s).push (regs := [.sp, .pc]) (bits := [])
    (cells := [s.stackAddr, (s.push (s.width.hi s.jsrReturn)).stackAddr]) hs (s.width.hi s.jsrReturn)
    (by simp) (by simp)).push (hs.push _) (s.width.lo s.jsrReturn) (by simp) (by simp)).setPc target (by simp)
  rwa [Width.hi, Width.lo, Width.cell_cell, Width.cell_cell] at frame

end Subroutines

/-- Settles O36: the two limbs are read back from the two cells, and SP, PC and the events are those of two pushes and
a jump. -/
theorem jsrPushesTheReturnAddress : Obligations.JsrPushesTheReturnAddress := by
  unfold Obligations.JsrPushesTheReturnAddress
  refine ⟨rfl, fun s lo hi hs => ?_⟩
  have high := jsr_read_high hs (s.width.word lo hi)
  have low := jsr_read_low hs (s.width.word lo hi)
  refine ⟨jsr s (s.width.word lo hi), s.jsrReturn, s.stackAddr, (s.push (s.width.hi s.jsrReturn)).stackAddr,
    (s.push (s.width.hi s.jsrReturn)).sp.toNat, rfl, s.jsrReturn_eq, State.push_sp_toNat hs _, rfl, ?address, ?high,
    ?low, jsr_sp_toNat hs _, ?pc, ?frame⟩
  case address => rw [State.stackAddr, State.push_width]
  case high => rw [high, Width.hi, Width.toNat_cell, Width.addr_of_lt s.jsrReturn_lt]
  case low => rw [low, Width.lo, Width.toNat_cell]
  case pc => exact State.setPc_pc_toNat (by simpa using s.width.word_lt lo hi)
  case frame =>
    rw [high, low]
    simpa [BitVec.toNat_eq] using jsr_changesOnly hs (s.width.word lo hi)

theorem rts_eq (s : State) :
    rts s = s.popAdvance.popAdvance.setPc (s.width.word s.pop.1 s.popAdvance.pop.1 + 1) := rfl

theorem rts_sp (s : State) : (rts s).sp = s.popAdvance.popAdvance.sp := rfl

/-- The address RTS pops: the word of the cells at the first and the second incremented SP (43_control R182). -/
theorem rts_pc (s : State) : (rts s).pc = s.width.addrWord
    (s.width.word (s.read (s.width.stackBase + s.popAdvance.sp.toNat))
      (s.read (s.width.stackBase + s.popAdvance.popAdvance.sp.toNat)) + 1) := by
  rw [rts_eq, State.setPc_pc, State.pop_fst_eq_read, State.pop_fst_eq_read]
  simp

theorem State.popAdvance_popAdvance_sp_toNat {s : State} (h : s.wf) :
    s.popAdvance.popAdvance.sp.toNat = (s.sp.toNat + 2) % 2 ^ s.width.dw := by
  rw [State.popAdvance_sp_toNat h.popAdvance, State.popAdvance_sp_toNat h, State.popAdvance_width, Nat.mod_add_mod]

/-- Settles O37: the three registers of two pops and a jump, and their frame. -/
theorem rtsReturnsPastThePoppedWord : Obligations.RtsReturnsPastThePoppedWord := by
  unfold Obligations.RtsReturnsPastThePoppedWord
  refine ⟨rfl, fun s hs => ⟨rts s, s.popAdvance.sp.toNat, s.popAdvance.popAdvance.sp.toNat, rfl,
    State.popAdvance_sp_toNat hs, State.popAdvance_popAdvance_sp_toNat hs, ?pc, rfl, ?frame⟩⟩
  case pc =>
    rw [rts_pc, Width.toNat_addrWord]
    rfl
  case frame =>
    rw [rts_eq]
    simpa using (((ChangesOnly.refl s).popAdvance (by simp)).popAdvance (by simp)).setPc _ (by simp)

/-! RTI (43_control R183). -/

/-- The state after the first pop of RTI, the one PLP also makes: P popped, with bits 4 and 5 forced to 1. -/
def State.popP (s : State) : State := s.pop.2.setP (withB s.pop.1)

theorem State.wf.popP {s : State} (h : s.wf) : s.popP.wf := h.pop.setP _

@[simp] theorem State.popP_width (s : State) : s.popP.width = s.width := s.popAdvance_width

@[simp] theorem State.popP_read (s : State) (a : Nat) : s.popP.read a = s.read a := s.popAdvance_read a

theorem State.popP_sp (s : State) : s.popP.sp = s.popAdvance.sp := rfl

/-- The popped value keeps its bits: it is a cell value, and so is 0x30. -/
theorem State.popP_p {s : State} (h : s.wf) :
    s.popP.p = s.read (s.width.stackBase + s.popAdvance.sp.toNat) ||| 0x30 := by
  rw [← State.pop_fst_eq_read, State.popP, State.setP_p, State.pop_snd, State.popAdvance_width,
    Width.cell_toNat_of_fits (Width.fits_withB h.fits_pop), withB]

theorem rti_eq (s : State) : rti s =
    s.popP.popAdvance.popAdvance.setPc (s.width.word s.popP.pop.1 s.popP.popAdvance.pop.1) := rfl

/-- The address RTI pops: the word of the cells at the second and the third incremented SP. -/
theorem rti_pc_toNat (s : State) : (rti s).pc.toNat =
    s.width.word (s.read (s.width.stackBase + s.popP.popAdvance.sp.toNat))
      (s.read (s.width.stackBase + s.popP.popAdvance.popAdvance.sp.toNat)) := by
  rw [rti_eq, State.setPc_pc_toNat (by simpa using s.width.word_lt _ _), State.pop_fst_eq_read, State.pop_fst_eq_read]
  simp

theorem rti_changesOnly (s : State) : ChangesOnly [.sp, .pc] (List.range 32) []
    ((if s.popP.popAdvance.sp.toNat = s.width.dataMask then [Event.warning .pop] else []) ++
      ((if s.popP.sp.toNat = s.width.dataMask then [Event.warning .pop] else []) ++
        (if s.sp.toNat = s.width.dataMask then [Event.warning .pop] else []))) s (rti s) := by
  have first : ChangesOnly [.sp, .pc] (List.range 32) [] _ s s.popP :=
    ((ChangesOnly.refl s).popAdvance (by simp)).setP _ (by simp)
  rw [rti_eq]
  simpa using ((first.popAdvance (by simp)).popAdvance (by simp)).setPc _ (by simp)

/-- Settles O38: the first pop loads P, and the next two the limbs of PC. -/
theorem rtiRestoresPAndPc : Obligations.RtiRestoresPAndPc := by
  unfold Obligations.RtiRestoresPAndPc
  refine ⟨rfl, fun s hs => ⟨rti s, s.popP.sp.toNat, s.popP.popAdvance.sp.toNat,
    s.popP.popAdvance.popAdvance.sp.toNat, rfl, State.popAdvance_sp_toNat hs, ?sp2, ?sp3, ?p, rti_pc_toNat s, rfl,
    ?frame⟩⟩
  case sp2 =>
    rw [State.popAdvance_sp_toNat hs.popP, State.popP_sp, State.popAdvance_sp_toNat hs, State.popP_width,
      Nat.mod_add_mod]
  case sp3 =>
    rw [State.popAdvance_popAdvance_sp_toNat hs.popP, State.popP_sp, State.popAdvance_sp_toNat hs, State.popP_width,
      Nat.mod_add_mod]
  case p => exact (rti_p s).trans (State.popP_p hs)
  case frame => simpa only [List.append_assoc] using rti_changesOnly s

/-! RTS after JSR (43_control R181, R182). -/

/-- A pop undoes the SP of a push, in whatever state it finds that SP. -/
theorem State.popAdvance_sp_of_push {s t : State} (hs : s.wf) (ht : t.wf) (hw : t.width = s.width) {v : Word}
    (hsp : t.sp = (s.push v).sp) : t.popAdvance.sp = s.sp := by
  apply BitVec.eq_of_toNat_eq
  rw [State.popAdvance_sp_toNat ht, hsp, State.push_sp_toNat hs, hw]
  exact pred_mod_add_one_mod ((s.width.fits_iff _).1 hs.fits_sp)

/-- Continuing after the return address is continuing at PC (43_control R181, R182). -/
theorem State.wf.addrWord_jsrReturn_add_one {s : State} (hs : s.wf) : s.width.addrWord (s.jsrReturn + 1) = s.pc := by
  apply BitVec.eq_of_toNat_eq
  rw [Width.toNat_addrWord, State.jsrReturn_eq]
  exact pred_mod_add_one_mod hs.pc_lt

/-- Settles O39: the two pops find the SP values of the two pushes, so they read the two limbs of the return address. -/
theorem rtsUndoesJsr : Obligations.RtsUndoesJsr := by
  unfold Obligations.RtsUndoesJsr
  intro s t lo hi hs ht
  obtain rfl : jsr s (s.width.word lo hi) = t := Host.Outcome.next.inj ht
  generalize s.width.word lo hi = target
  have width : (jsr s target).width = s.width := by simp [jsr]
  have first : (jsr s target).popAdvance.sp = (s.push (s.width.hi s.jsrReturn)).sp :=
    State.popAdvance_sp_of_push (hs.push _) (hs.jsr target) (by simp [jsr]) rfl
  have second : (jsr s target).popAdvance.popAdvance.sp = s.sp :=
    State.popAdvance_sp_of_push hs (hs.jsr target).popAdvance (by simp [jsr]) first
  have low := jsr_read_low hs target
  have high := jsr_read_high hs target
  rw [State.stackAddr, State.push_width] at low
  refine ⟨rts (jsr s target), rfl, ?pc, ?sp, ?others⟩
  case sp => rw [rts_sp, second]
  case others => simp [rts, jsr]
  case pc =>
    rw [rts_pc, width, first, second, low, ← State.stackAddr, high, Width.word_lo_hi s.jsrReturn_lt]
    exact hs.addrWord_jsrReturn_add_one

/-! Branches (43_control R184 to R192). -/

/-- A mnemonic with a branch condition branches on it. -/
theorem effect_eq_branch {m : Mnemonic} {s : State} {taken : Bool} (h : branchTaken m s = some taken) (d : Word) :
    effect m (.rel d) s = branch s taken d := by
  cases m <;> cases h <;> rfl

/-- A taken branch adds the signed offset: below SB as it is, from SB on by the subtraction of `2^dw - d`. -/
theorem branch_taken_pc {s : State} {d : Word} (hd : s.width.fits d = true) :
    ((branch s true d).pc.toNat : Int) = ((s.pc.toNat : Int) + s.width.signed d) % (2 ^ s.width.aw : Nat) := by
  have d_lt := (s.width.fits_iff d).1 hd
  have le := s.width.pow_dw_le_pow_aw
  by_cases negative : d.toNat ≥ s.width.signBit
  · have target : (s.pc.toNat : Int) + ((d.toNat : Int) - (2 ^ s.width.dw : Nat)) + (2 ^ s.width.aw : Nat) =
        (s.pc.toNat + 2 ^ s.width.aw - (2 ^ s.width.dw - d.toNat) : Nat) := by omega
    rw [branch, if_pos rfl, if_pos negative, Width.signed, if_pos negative, ← Int.add_emod_right, target,
      State.setPc_pc, Width.toNat_addrWord, Width.addr, Int.natCast_mod]
  · rw [branch, if_pos rfl, if_neg negative, Width.signed, if_neg negative, State.setPc_pc, Width.toNat_addrWord,
      Width.addr, Int.natCast_mod, Int.natCast_add]

/-- Settles O40: the offset is a cell value, and each mnemonic branches on its own condition. -/
theorem branchesAddTheSignedOffset : Obligations.BranchesAddTheSignedOffset := by
  unfold Obligations.BranchesAddTheSignedOffset
  refine ⟨rfl, rfl, rfl, rfl, rfl, rfl, rfl, rfl, fun i s d taken hs hi ho ht => ?_⟩
  have fits : s.width.fits d = true := Instr.fits_of_mem_cells hi (by simp [ho, Operand.cells])
  refine ⟨branch s taken d, (exec_of_parts rfl ho s).trans (congrArg _ (effect_eq_branch ht d)), ?_,
    branch_changesOnly s taken d⟩
  cases taken
  case true => exact branch_taken_pc fits
  case false => rfl

/-! The instructions that halt, and NOP (43_control R193, R194; 44_stack_flags R209, R210). -/

/-- Settles O41: the three instructions are a halt at the opcode cell's address, which writes the status and the
trace. -/
theorem brkCliAndSeiHalt : Obligations.BrkCliAndSeiHalt := by
  unfold Obligations.BrkCliAndSeiHalt
  refine ⟨rfl, rfl, rfl, fun i s r _ hi => ?_⟩
  have run : exec i s = .next (s.halt r s.opcodeAddr) := by
    obtain ⟨rfl, rfl⟩ | ⟨rfl, rfl⟩ | ⟨rfl, rfl⟩ := hi <;> rfl
  have address : s.opcodeAddr.toNat = (s.pc.toNat + 2 ^ s.width.aw - 1) % 2 ^ s.width.aw := by
    rw [State.opcodeAddr, Width.toNat_addrWord, Width.addr_add_addrMask]
  exact ⟨_, _, run, address, rfl, rfl, s.halt_reg r _, fun _ => rfl, rfl, rfl, rfl, rfl, rfl, rfl, rfl, rfl⟩

/-- Settles O42: NOP has no effect. -/
theorem nopChangesNothing : Obligations.NopChangesNothing := by
  unfold Obligations.NopChangesNothing
  exact ⟨rfl, fun _ => rfl⟩

end Sys2Proof.Machine
end

section
/-! PROOFS. The stack and flag family: a push as one written cell, a pull as the cell SP comes to name, the pull that
follows a push, and the flag instructions. -/

namespace Sys2Proof.Machine

/-! Pushes (44_stack_flags R200, R201). -/

/-- A pushed cell value reads back, and the push changes that cell and SP alone (10_state R33). -/
theorem push_writes {s : State} (hs : s.wf) {v : Word} (hv : s.width.fits v = true) :
    (s.push v).read s.stackAddr = v ∧
      ChangesOnly [.sp] [] [s.stackAddr] ((if s.sp = 0 then [.warning .push] else []) ++ [.onMemoryWrite s.stackAddr v])
        s (s.push v) := by
  have kept : s.width.cell v.toNat = v := Width.cell_toNat_of_fits hv
  have frame := (ChangesOnly.refl s).push (bits := []) hs v (List.mem_singleton_self _) (List.mem_singleton_self _)
  rw [kept] at frame
  exact ⟨by rw [State.read_push hs, if_pos rfl, kept], frame⟩

/-- Settles O43: both instructions are the push of a cell value. -/
theorem pushesWriteThenDecrement : Obligations.PushesWriteThenDecrement := by
  unfold Obligations.PushesWriteThenDecrement
  refine ⟨rfl, rfl, fun i s v hs hi => ?_⟩
  obtain ⟨run, fits⟩ : exec i s = .next (s.push v) ∧ s.width.fits v = true := by
    obtain ⟨rfl, rfl⟩ | ⟨rfl, rfl⟩ := hi
    · exact ⟨rfl, hs.fits_a⟩
    · exact ⟨rfl, Width.fits_withB hs.fits_p⟩
  obtain ⟨value, frame⟩ := push_writes hs fits
  exact ⟨s.push v, s.stackAddr, run, rfl, value, State.push_sp_toNat hs v, frame⟩

/-! Pulls (44_stack_flags R202, R203). -/

theorem State.popAdvance_changesOnly (s : State) {regs : List Reg} {bits : List Nat} (mr : Reg.sp ∈ regs) :
    ChangesOnly regs bits [] (if s.sp.toNat = s.width.dataMask then [.warning .pop] else []) s s.popAdvance := by
  simpa only [List.append_nil] using (ChangesOnly.refl s).popAdvance mr

/-- PLA takes the popped cell as it is, a cell value. -/
theorem pla_a {s : State} (hs : s.wf) : (pla s).a = s.pop.1 := by
  rw [pla, State.setNZ_a, State.setA_a, State.pop_snd, State.popAdvance_width, Width.cell_toNat_of_fits hs.fits_pop]

theorem pla_nz_changesOnly {s : State} (hs : s.wf) : NZFrom s.pop.1 s (pla s) ∧
    ChangesOnly [.a, .sp] (nzBits s.width) [] (if s.sp.toNat = s.width.dataMask then [.warning .pop] else []) s
      (pla s) :=
  setNZ_of_changesOnly (hs.pop.setA _) ((s.popAdvance_changesOnly (by simp)).setA _ (by simp)) _

/-- PLP makes the state that the first pop of RTI makes. -/
theorem plp_eq_popP (s : State) : plp s = s.popP := rfl

/-- Settles O44: the pop advances SP and gives the cell SP then names, which PLA or PLP takes. -/
theorem pullsIncrementThenRead : Obligations.PullsIncrementThenRead := by
  unfold Obligations.PullsIncrementThenRead
  refine ⟨rfl, rfl, fun s hs => ⟨?pla, ?plp⟩⟩
  case pla =>
    exact ⟨pla s, s.popAdvance.sp.toNat, s.pop.1, rfl, State.popAdvance_sp_toNat hs, s.pop_fst_eq_read, pla_a hs, rfl,
      pla_nz_changesOnly hs⟩
  case plp =>
    exact ⟨plp s, s.popAdvance.sp.toNat, _, rfl, State.popAdvance_sp_toNat hs, rfl, State.popP_p hs, rfl,
      (s.popAdvance_changesOnly (by simp)).setP _ (by simp)⟩

/-! A pull after a push (10_state R33, R34). -/

theorem State.popAdvance_push_sp {s : State} (hs : s.wf) (v : Word) : (s.push v).popAdvance.sp = s.sp :=
  State.popAdvance_sp_of_push hs (hs.push v) (s.push_width v) rfl

/-- A pop gives back the cell value that was pushed. -/
theorem State.pop_push_fst {s : State} (hs : s.wf) {v : Word} (hv : s.width.fits v = true) :
    (s.push v).pop.1 = v := by
  obtain ⟨value, -⟩ := push_writes hs hv
  rw [State.pop_fst_eq_read, State.popAdvance_push_sp hs, State.push_width]
  exact value

/-- Settles O45: the pop finds SP as the push left it, so it restores SP and gives back the pushed value. -/
theorem pullUndoesPush : Obligations.PullUndoesPush := by
  unfold Obligations.PullUndoesPush
  intro s t u hs
  refine ⟨fun ht hu => ?a, fun ht hu => ?p⟩
  case a =>
    obtain rfl : s.push s.a = t := Host.Outcome.next.inj ht
    obtain rfl : pla (s.push s.a) = u := Host.Outcome.next.inj hu
    refine ⟨?_, State.popAdvance_push_sp hs s.a, by simp [pla]⟩
    rw [pla_a (hs.push _), State.pop_push_fst hs hs.fits_a]
  case p =>
    obtain rfl : s.push (withB s.p) = t := Host.Outcome.next.inj ht
    obtain rfl : plp (s.push (withB s.p)) = u := Host.Outcome.next.inj hu
    refine ⟨?_, State.popAdvance_push_sp hs (withB s.p), by simp [plp]⟩
    rw [plp_eq_popP, State.popP_p (hs.push _), ← State.pop_fst_eq_read,
      State.pop_push_fst hs (Width.fits_withB hs.fits_p), withB, BitVec.or_assoc, BitVec.or_self]

/-! Flag instructions (44_stack_flags R204 to R208). -/

theorem State.flagD_setD {s : State} (h : s.wf) (b : Bool) : (s.setD b).flagD = b := by
  rw [State.flagD, State.getLsbD_setD h, if_pos rfl]

/-- Settles O46: each instruction is one flag write, whose frame is that flag's bit. -/
theorem flagInstructionsWriteOneFlag : Obligations.FlagInstructionsWriteOneFlag := by
  unfold Obligations.FlagInstructionsWriteOneFlag
  refine ⟨rfl, rfl, rfl, rfl, rfl, fun s hs => ?_⟩
  have wroteC (b : Bool) : (s.setC b).flagC = b ∧ ChangesOnly [] [0] [] [] s (s.setC b) :=
    ⟨State.flagC_setC hs b, (ChangesOnly.refl s).setC hs b (List.mem_singleton_self _)⟩
  have wroteD (b : Bool) : (s.setD b).flagD = b ∧ ChangesOnly [] [3] [] [] s (s.setD b) :=
    ⟨State.flagD_setD hs b, (ChangesOnly.refl s).setD hs b (List.mem_singleton_self _)⟩
  have wroteV (b : Bool) : (s.setV b).flagV = b ∧ ChangesOnly [] [s.width.dw - 2] [] [] s (s.setV b) :=
    ⟨State.flagV_setV hs b, (ChangesOnly.refl s).setV hs b (List.mem_singleton_self _)⟩
  exact ⟨⟨_, rfl, wroteC false⟩, ⟨_, rfl, wroteC true⟩, ⟨_, rfl, wroteD false⟩, ⟨_, rfl, wroteD true⟩,
    ⟨_, rfl, wroteV false⟩⟩

end Sys2Proof.Machine
end

section
/-! PROOFS. The assembler family: what an assembly commits or leaves, the mode both passes choose for a line, the
offset of an assembled branch, and the spec's examples (45_assembler). -/

namespace Sys2Proof

/-- An integer within the signed range survives the reduction to a cell (00_scope R10, R11). -/
theorem Width.signed_cellInt {w : Width} {n : Int} (lower : -(w.signBit : Int) ≤ n)
    (upper : n ≤ (w.signBit : Int) - 1) : w.signed (w.cellInt n) = n := by
  have reduced := w.toNat_cellInt n
  have twice : 2 * w.signBit = 2 ^ w.dw := w.two_mul_signBit
  rw [Width.signed]
  by_cases negative : n < 0
  · rw [← Int.add_emod_right, Int.emod_eq_of_lt (by omega) (by omega)] at reduced
    rw [if_pos (by omega)]
    omega
  · rw [Int.emod_eq_of_lt (by omega) (by omega)] at reduced
    rw [if_neg (by omega)]
    exact reduced

end Sys2Proof

namespace Sys2Proof.Machine

/-! The operation `assemble` (45_assembler R220). -/

/-- What `assemble` answers in a session without a run, when the text does not assemble (R220, R244). -/
theorem hostStep_assemble_of_error {s : State} {text : Text} {e : AsmError} (idle : s.running = false)
    (h : assembleText s.width s.origin.toNat text = .error e) :
    hostStep (.assemble text) (some s) = (some (s.failAssembly e), .error (.assembly e)) := by
  simp [hostStep, idle, hostApply, State.assemble, h]

/-- What `assemble` answers in a session without a run, when the text assembles (R220, R241). -/
theorem hostStep_assemble_of_ok {s : State} {text : Text} {prog : Program} (idle : s.running = false)
    (h : assembleText s.width s.origin.toNat text = .ok prog) :
    hostStep (.assemble text) (some s) = (some (s.commit prog), .done) := by
  simp [hostStep, idle, hostApply, State.assemble, h]

/-- Settles O54: the state after an error is the old one with its event and no labels. -/
theorem failedAssemblyCommitsNothing : Obligations.FailedAssemblyCommitsNothing := by
  unfold Obligations.FailedAssemblyCommitsNothing
  intro s t text e idle failed
  cases result : assembleText s.width s.origin.toNat text with
  | ok prog => cases (hostStep_assemble_of_ok idle result).symm.trans failed
  | error e =>
    cases (hostStep_assemble_of_error idle result).symm.trans failed
    cases e <;> exact ⟨rfl, fun r => by cases r <;> rfl, rfl, rfl, rfl, rfl, rfl, rfl, rfl, rfl, rfl, rfl, rfl⟩

/-! The cells of an assembled program (45_assembler R238 to R243). -/

/-- Emission adds cells below AM only (R243). -/
theorem emitCells_le {w : Width} {n : Nat} {line : Text} {cells : List Word} {cursor : Nat} {out : List (Nat × Word)}
    {emitted : Nat × List (Nat × Word)} (h : emitCells w n line cells cursor out = .ok emitted)
    (bound : ∀ c ∈ out, c.1 ≤ w.addrMask) : ∀ c ∈ emitted.2, c.1 ≤ w.addrMask := by
  induction cells generalizing cursor out with
  | nil => cases h; exact bound
  | cons v cells ih =>
    rw [emitCells] at h
    split at h
    case isTrue => cases h
    case isFalse inRange =>
      exact ih h (List.forall_mem_append.2 ⟨bound, List.forall_mem_singleton.2 (Nat.le_of_not_gt inRange)⟩)

/-- Pass 2 keeps every emitted cell in the address space, line by line (R243). -/
theorem pass2_le {w : Width} {labels lines : List (Text × Nat)} {cursor : Nat} {out : List (Nat × Word)}
    {emitted : Nat × List (Nat × Word)} (h : pass2 w labels lines cursor out = .ok emitted)
    (bound : ∀ c ∈ out, c.1 ≤ w.addrMask) : ∀ c ∈ emitted.2, c.1 ≤ w.addrMask := by
  induction lines generalizing cursor out with
  | nil => cases h; exact bound
  | cons line lines ih =>
    rw [pass2] at h
    split at h
    · cases h
    · split at h
      · cases h
      · next line_emits => exact ih h (emitCells_le line_emits bound)

/-- A program is not empty and ends with the zero sentinel, which fits (R240, R242). -/
theorem finishProgram_eq_ok {w : Width} {labels lines : List (Text × Nat)} {cursor : Nat} {out : List (Nat × Word)}
    {prog : Program} (h : finishProgram w labels lines cursor out = .ok prog) :
    out ≠ [] ∧ cursor ≤ w.addrMask ∧
      prog = { labels := labels, cells := out ++ [(cursor, 0)], codeLength := out.length, cursor := cursor } := by
  unfold finishProgram at h
  split at h
  case isTrue => cases h
  case isFalse nonempty =>
    split at h
    case isTrue => cases h
    case isFalse inRange => cases h; exact ⟨nonempty, Nat.le_of_not_gt inRange, rfl⟩

/-- What an assembled program is made of: the emitted cells, then the sentinel at the final cursor. -/
theorem assembleText_eq_ok {w : Width} {origin : Nat} {text : Text} {prog : Program}
    (h : assembleText w origin text = .ok prog) :
    ∃ out, prog.cells = out ++ [(prog.cursor, 0)] ∧ prog.codeLength = out.length ∧ out ≠ [] ∧
      ∀ c ∈ prog.cells, c.1 ≤ w.addrMask := by
  unfold assembleText at h
  split at h
  · cases h
  · split at h
    · cases h
    · next emits =>
      obtain ⟨nonempty, inRange, rfl⟩ := finishProgram_eq_ok h
      exact ⟨_, rfl, rfl, nonempty, List.forall_mem_append.2
        ⟨pass2_le emits (by simp), List.forall_mem_singleton.2 inRange⟩⟩

/-! The commit (45_assembler R241). -/

/-- Cells stored in order, one event each: the second half of the commit (R241). -/
def State.storeAll (s : State) (cells : List (Nat × Word)) : State := cells.foldl (fun t c => t.store c.1 c.2) s

theorem State.commit_eq (s : State) (prog : Program) : s.commit prog =
    { s.doReset.storeAll prog.cells with
      labels := prog.labels, codeLength := prog.codeLength, cursor := prog.cursor } := rfl

theorem State.storeAll_append_singleton (s : State) (cells : List (Nat × Word)) (c : Nat × Word) :
    s.storeAll (cells ++ [c]) = (s.storeAll cells).store c.1 c.2 := List.foldl_concat ..

/-- What no store changes, no list of stores changes. -/
theorem State.storeAll_keeps {α : Type} {field : State → α} (h : ∀ s a v, field (State.store s a v) = field s)
    (s : State) (cells : List (Nat × Word)) : field (s.storeAll cells) = field s := by
  induction cells generalizing s with
  | nil => rfl
  | cons c cells ih => exact (ih _).trans (h s c.1 c.2)

theorem State.wf.storeAll {s : State} (h : s.wf) {cells : List (Nat × Word)}
    (inRange : ∀ c ∈ cells, c.1 ≤ s.width.addrMask) : (s.storeAll cells).wf := by
  induction cells generalizing s with
  | nil => exact h
  | cons c cells ih =>
    obtain ⟨first, others⟩ := List.forall_mem_cons.1 inRange
    exact ih (h.store ((s.width.le_addrMask_iff _).1 first) c.2) (by rwa [State.store_width])

/-- After the stores an address reads as the last cell stored there, or as before. -/
theorem State.storeAll_read {s : State} (h : s.wf) {cells : List (Nat × Word)}
    (inRange : ∀ c ∈ cells, c.1 ≤ s.width.addrMask) (a : Nat) : (s.storeAll cells).read a =
      ((cells.reverse.find? fun c => c.1 == a).map fun c => s.width.cell c.2.toNat).getD (s.read a) := by
  induction cells using List.reverseRecOn with
  | nil => rfl
  | append_singleton cells c ih =>
    obtain ⟨before, -⟩ := List.forall_mem_append.1 inRange
    rw [State.storeAll_append_singleton, State.read_store (h.storeAll before).rising, ih before,
      State.storeAll_keeps State.store_width, List.reverse_append, List.reverse_singleton, List.singleton_append,
      List.find?_cons]
    by_cases here : c.1 = a
    · simp [here]
    · rw [if_neg (Ne.symm here), beq_false_of_ne here]

theorem State.storeAll_trace (s : State) (cells : List (Nat × Word)) : (s.storeAll cells).trace =
    (cells.map fun c => Event.onMemoryWrite c.1 (s.width.cell c.2.toNat)).reverse ++ s.trace := by
  induction cells using List.reverseRecOn with
  | nil => rfl
  | append_singleton cells c ih =>
    rw [State.storeAll_append_singleton, State.store_trace, ih, State.storeAll_keeps State.store_width]
    simp

theorem State.doReset_read (s : State) (a : Nat) : s.doReset.read a = 0 := by
  unfold State.read
  split <;> rfl

theorem State.wf.doReset_pc {s : State} (h : s.wf) : s.doReset.pc = s.origin :=
  Width.addrWord_toNat_of_lt ((s.width.le_addrMask_iff _).1 h.origin_le)

/-- Settles O55: a reset, then the program's cells stored in order. -/
theorem successfulAssemblyCommitsTheProgram : Obligations.SuccessfulAssemblyCommitsTheProgram := by
  unfold Obligations.SuccessfulAssemblyCommitsTheProgram
  intro s text prog hs idle assembled
  obtain ⟨out, cells, codeLength, nonempty, inRange⟩ := assembleText_eq_ok assembled
  refine ⟨_, hostStep_assemble_of_ok idle assembled, ?_⟩
  rw [State.commit_eq]
  refine ⟨State.storeAll_keeps State.store_a .., State.storeAll_keeps State.store_x ..,
    State.storeAll_keeps State.store_y .., State.storeAll_keeps State.store_sp ..,
    State.storeAll_keeps State.store_p .., (State.storeAll_keeps State.store_pc ..).trans hs.doReset_pc,
    State.storeAll_keeps State.store_status .., rfl, rfl, ?length, ?notEmpty, ?sentinel, inRange,
    fun a => ?read, State.storeAll_trace ..⟩
  case length => rw [cells, codeLength, List.length_append, List.length_singleton]
  case notEmpty => rwa [codeLength, Ne, List.length_eq_zero_iff]
  case sentinel => rw [cells, List.getLast?_concat]
  case read =>
    refine (State.storeAll_read hs.doReset inRange a).trans ?_
    rw [State.doReset_read]
    cases prog.cells.reverse.find? fun c => c.1 == a <;> rfl

/-! The first character of an operand text tells the modes apart (45_assembler R230 to R232). -/

/-- The text is not empty and its first character satisfies `p`. -/
def BeginsWith (p : Char → Bool) (t : Text) : Prop := ∃ c cs, t = c :: cs ∧ p c = true

theorem BeginsWith.mono {p q : Char → Bool} {t : Text} (h : BeginsWith p t) (hpq : ∀ c, p c = true → q c = true) :
    BeginsWith q t := by
  obtain ⟨c, cs, rfl, hc⟩ := h
  exact ⟨c, cs, rfl, hpq c hc⟩

theorem BeginsWith.of_prefix {p : Char → Bool} {t u : Text} (h : BeginsWith p t) (ht : t <+: u) : BeginsWith p u := by
  obtain ⟨c, cs, rfl, hc⟩ := h
  obtain ⟨tail, rfl⟩ := ht
  exact ⟨c, cs ++ tail, rfl, hc⟩

/-- Two facts about the first character are about one character. -/
theorem BeginsWith.both {p q : Char → Bool} {t : Text} (hp : BeginsWith p t) (hq : BeginsWith q t) :
    ∃ c, p c = true ∧ q c = true := by
  obtain ⟨c, cs, rfl, hpc⟩ := hp
  obtain ⟨_, _, same, hqc⟩ := hq
  cases same
  exact ⟨c, hpc, hqc⟩

/-- A first character of a literal (45_assembler R231). -/
def isLiteralStart (c : Char) : Bool := c = '$' || isDigit c

theorem isIdentStart_eq_false_of_isLiteralStart {c : Char} (h : isLiteralStart c = true) : isIdentStart c = false := by
  simp only [isLiteralStart, isDigit, isIdentStart, isLetter, Char.ext_iff, Char.reduceVal, UInt32.ext_iff,
    Char.toNat_val, UInt32.reduceToNat, Char.le_def, UInt32.le_iff_toNat_le, Bool.or_eq_true, Bool.and_eq_true,
    decide_eq_true_eq, Bool.or_eq_false_iff, Bool.and_eq_false_imp, decide_eq_false_iff_not] at h ⊢
  omega

theorem BeginsWith.not_isIdentStart {t : Text} (h : BeginsWith isLiteralStart t) : ¬ BeginsWith isIdentStart t := by
  intro name
  obtain ⟨c, literal, identifier⟩ := h.both name
  cases (isIdentStart_eq_false_of_isLiteralStart literal).symm.trans identifier

/-- A decimal digit is a digit character: the letters' values start at 10. -/
theorem isDigit_of_digitValue_lt {c : Char} {d : Nat} (h : digitValue c = some d) (hd : d < 10) : isDigit c = true := by
  unfold digitValue at h
  split at h
  case isTrue digit => exact digit
  case isFalse =>
    split at h <;> cases h
    omega

theorem beginsWith_of_parseDigits {t : Text} {v : Nat} (h : parseDigits 10 t = some v) : BeginsWith isDigit t := by
  cases t with
  | nil => cases h
  | cons c cs =>
    rw [parseDigits, parseDigitsFrom] at h
    split at h
    case h_1 => cases h
    case h_2 d value =>
      split at h
      case isTrue small => exact ⟨c, cs, rfl, isDigit_of_digitValue_lt value small⟩
      case isFalse => cases h

theorem beginsWith_of_literal {n max v : Nat} {t : Text} (h : literal n max t = some v) :
    BeginsWith isLiteralStart t := by
  unfold literal at h
  split at h
  case h_1 ds => exact ⟨'$', ds, rfl, by decide⟩
  case h_2 =>
    exact (beginsWith_of_parseDigits (Option.filter_eq_some_iff.1 h).1).mono fun c digit => by
      simp [isLiteralStart, digit]

theorem beginsWith_of_isIdentifier {t : Text} (h : isIdentifier t = true) : BeginsWith isIdentStart t := by
  cases t with
  | nil => cases h
  | cons c cs => exact ⟨c, cs, rfl, (Bool.and_eq_true_iff.1 h).1⟩

theorem stripSuffix_prefix {suffix t rest : Text} (h : stripSuffix suffix t = some rest) : rest <+: t := by
  unfold stripSuffix at h
  split at h <;> cases h
  exact List.take_prefix ..

theorem beginsWith_of_suffixed_literal {n max v : Nat} {suffix t : Text}
    (h : (stripSuffix suffix t).bind (literal n max) = some v) : BeginsWith isLiteralStart t := by
  obtain ⟨rest, stripped, value⟩ := Option.bind_eq_some_iff.1 h
  exact (beginsWith_of_literal value).of_prefix (stripSuffix_prefix stripped)

/-- No identifier is a literal: their first characters differ. -/
theorem literal_eq_none_of_isIdentifier {n max : Nat} {t : Text} (h : isIdentifier t = true) :
    literal n max t = none :=
  Option.eq_none_iff_forall_ne_some.2 fun _ value =>
    (beginsWith_of_literal value).not_isIdentStart (beginsWith_of_isIdentifier h)

/-! Labels that the table does not resolve (45_assembler R233). -/

/-- An identifier the label table does not resolve (45_assembler R233). -/
def Unresolved (lab : Text → Option Nat) (t : Text) : Prop := isIdentifier t = true ∧ lab t = none

theorem Unresolved.labelOperand_eq_none {lab : Text → Option Nat} {t : Text} (h : Unresolved lab t) :
    labelOperand lab t = none := by rw [labelOperand, if_pos h.1, h.2]

theorem Unresolved.addressOrLabel_eq_none {w : Width} {lab : Text → Option Nat} {t : Text} (h : Unresolved lab t) :
    addressOrLabel w lab t = none := by
  rw [addressOrLabel, addressLiteral, literal_eq_none_of_isIdentifier h.1]
  exact h.labelOperand_eq_none

/-- The placeholder accepts what the table resolves, and beyond that only unresolved identifiers. -/
theorem labelOperand_placeholder (lab : Text → Option Nat) (t : Text) :
    (labelOperand placeholder t).isSome = (labelOperand lab t).isSome ∨ Unresolved lab t := by
  unfold labelOperand
  split
  case isTrue ident =>
    cases resolved : lab t with
    | some v => exact .inl rfl
    | none => exact .inr ⟨ident, resolved⟩
  case isFalse => exact .inl rfl

theorem addressOrLabel_placeholder (w : Width) (lab : Text → Option Nat) (t : Text) :
    (addressOrLabel w placeholder t).isSome = (addressOrLabel w lab t).isSome ∨ Unresolved lab t := by
  unfold addressOrLabel
  cases addressLiteral w t with
  | some v => exact .inl rfl
  | none => exact labelOperand_placeholder lab t

/-! The mode of a line (45_assembler R230 to R232, R247). -/

/-- A first character of an operand text of the mode, where the mode has an operand (45_assembler R232). -/
def operandStart : Mode → Char → Bool
  | .single, _ => false
  | .imm, c => c = '#'
  | .zp, c | .zpx, c | .zpy, c | .absx, c | .absy, c => isLiteralStart c
  | .abs, c => isLiteralStart c || isIdentStart c
  | .ind, c | .indx, c | .indy, c => c = '('
  | .rel, c => isIdentStart c

theorem eq_imm_of_operandStart {mode : Mode} (h : operandStart mode '#' = true) : mode = .imm := by
  cases mode
  case imm => rfl
  all_goals exact absurd h (by decide)

theorem eq_ind_of_operandStart {mode : Mode} (h : operandStart mode '(' = true) :
    mode = .ind ∨ mode = .indx ∨ mode = .indy := by
  cases mode
  case ind | indx | indy => simp
  all_goals exact absurd h (by decide)

theorem eq_abs_of_operandStart {mode : Mode} {c : Char} (h : operandStart mode c = true) (hc : isIdentStart c = true) :
    mode = .abs ∨ mode = .rel := by
  cases mode
  case abs | rel => simp
  case single => cases h
  case imm | ind | indx | indy =>
    obtain rfl := of_decide_eq_true h
    exact absurd hc (by decide)
  all_goals exact absurd hc (by simp [isIdentStart_eq_false_of_isLiteralStart h])

theorem labelOperand_eq_some {lab : Text → Option Nat} {t : Text} {v : Nat} (h : labelOperand lab t = some v) :
    isIdentifier t = true ∧ lab t = some v := by
  unfold labelOperand at h
  split at h
  case isTrue ident => exact ⟨ident, h⟩
  case isFalse => cases h

theorem beginsWith_of_addressOrLabel {w : Width} {lab : Text → Option Nat} {t : Text} {v : Nat}
    (h : addressOrLabel w lab t = some v) : BeginsWith (operandStart .abs) t := by
  unfold addressOrLabel at h
  cases value : addressLiteral w t with
  | some u => exact (beginsWith_of_literal value).mono fun c hc => by simp [operandStart, hc]
  | none =>
    rw [value] at h
    exact (beginsWith_of_isIdentifier (labelOperand_eq_some h).1).mono fun c hc => by simp [operandStart, hc]

section

variable {w : Width} {lab : Text → Option Nat} {mode : Mode} {t name : Text} {o : OperandText}

/-- An operand text of a mode begins as the mode's texts do. -/
theorem beginsWith_of_matchMode (h : matchMode w lab mode t = some o) (operand : mode ≠ .single) :
    BeginsWith (operandStart mode) t := by
  cases mode
  case single => exact absurd rfl operand
  case imm =>
    by_contra other
    have noHash : ∀ u, t ≠ '#' :: u := fun u e => other ⟨_, u, e, rfl⟩
    rw [matchMode] at h
    · cases h
    · exact fun _ => noHash _
    · exact fun _ => noHash _
    · exact noHash
  case ind | indx | indy =>
    by_contra other
    have noParen : ∀ u, t ≠ '(' :: u := fun u e => other ⟨_, u, e, rfl⟩
    rw [matchMode] at h
    · cases h
    · exact noParen
  all_goals obtain ⟨v, matched, -⟩ := Option.map_eq_some_iff.1 h
  case zp => exact beginsWith_of_literal matched
  case zpx | zpy | absx | absy => exact beginsWith_of_suffixed_literal matched
  case abs => exact beginsWith_of_addressOrLabel matched
  case rel => exact beginsWith_of_isIdentifier (labelOperand_eq_some matched).1

theorem matchMode_eq_none_of_not_beginsWith (h : ¬ BeginsWith (operandStart mode) t) (operand : mode ≠ .single) :
    matchMode w lab mode t = none :=
  Option.eq_none_iff_forall_ne_some.2 fun _ matched => h (beginsWith_of_matchMode matched operand)

/-- The cells of an operand text and its opcode make the mode's length (30_encoding R82). -/
theorem length_cells_of_matchMode (h : matchMode w lab mode t = some o) (a : Nat) :
    (o.cells w a).length + 1 = mode.length := by
  unfold matchMode at h
  split at h
  case h_1 =>
    split at h <;> cases h
    rfl
  case h_5 | h_13 | h_15 | h_17 => cases h -- a text without the mode's `#` or `(`
  all_goals
    obtain ⟨v, -, rfl⟩ := Option.map_eq_some_iff.1 h
    rfl

/-- Only the modes that may begin with a text's first character can accept it. -/
theorem matchMode_eq_none_of_start {c : Char} (h : ∀ b, operandStart b c = true → matchMode w lab b (c :: t) = none)
    (operand : mode ≠ .single) : matchMode w lab mode (c :: t) = none := by
  refine Option.eq_none_iff_forall_ne_some.2 fun o matched => ?_
  obtain ⟨_, _, same, start⟩ := beginsWith_of_matchMode matched operand
  cases same
  cases (h mode start).symm.trans matched

theorem matchMode_eq_none_of_imm (h : matchMode w lab .imm ('#' :: t) = none) (operand : mode ≠ .single) :
    matchMode w lab mode ('#' :: t) = none :=
  matchMode_eq_none_of_start (fun _ start => by rwa [eq_imm_of_operandStart start]) operand

/-- No mode but single accepts an unresolved identifier. -/
theorem Unresolved.matchMode_eq_none (h : Unresolved lab name) (operand : mode ≠ .single) :
    matchMode w lab mode name = none := by
  have abs : matchMode w lab .abs name = none := by
    simp [matchMode, h.addressOrLabel_eq_none]
  have rel : matchMode w lab .rel name = none := by simp [matchMode, h.labelOperand_eq_none]
  obtain ⟨c, cs, rfl, hc⟩ := beginsWith_of_isIdentifier h.1
  refine matchMode_eq_none_of_start (fun b start => ?_) operand
  obtain rfl | rfl := eq_abs_of_operandStart start hc
  · exact abs
  · exact rel

/-- No mode accepts an unresolved identifier in parentheses: within them a literal would begin otherwise. -/
theorem Unresolved.matchMode_paren_eq_none (h : Unresolved lab name) (inner : stripSuffix [')'] t = some name)
    (operand : mode ≠ .single) : matchMode w lab mode ('(' :: t) = none := by
  have name_starts : BeginsWith isIdentStart t :=
    (beginsWith_of_isIdentifier h.1).of_prefix (stripSuffix_prefix inner)
  have noLiteral (suffix : Text) : (stripSuffix suffix t).bind (zeroPageLiteral w) = none :=
    Option.eq_none_iff_forall_ne_some.2 fun _ value =>
      (beginsWith_of_suffixed_literal value).not_isIdentStart name_starts
  refine matchMode_eq_none_of_start (fun b start => ?_) operand
  obtain rfl | rfl | rfl := eq_ind_of_operandStart start
  · simp [matchMode, inner, h.addressOrLabel_eq_none]
  · rw [matchMode, noLiteral, Option.map_none]
  · rw [matchMode, noLiteral, Option.map_none]

/-- No mode accepts a limb of an unresolved label. -/
theorem Unresolved.matchMode_limb_eq_none {sign : Char} (h : Unresolved lab name) (limb : sign = '<' ∨ sign = '>')
    (operand : mode ≠ .single) : matchMode w lab mode ('#' :: sign :: name) = none := by
  refine matchMode_eq_none_of_imm ?_ operand
  obtain rfl | rfl := limb <;> simp [matchMode, h.labelOperand_eq_none]

/-- The placeholder changes an immediate's acceptance only at a limb of an unresolved label. -/
theorem matchMode_imm_placeholder (w : Width) (lab : Text → Option Nat) (t : Text) :
    (matchMode w placeholder .imm ('#' :: t)).isSome = (matchMode w lab .imm ('#' :: t)).isSome ∨
      ∀ b, b ≠ .single → matchMode w lab b ('#' :: t) = none := by
  by_cases limb : ∃ sign name, (sign = '<' ∨ sign = '>') ∧ t = sign :: name
  case pos =>
    obtain ⟨sign, name, which, rfl⟩ := limb
    refine (labelOperand_placeholder lab name).imp (fun same => ?_) fun h b => h.matchMode_limb_eq_none which
    obtain rfl | rfl := which <;> simpa [matchMode] using same
  case neg =>
    have noLow : ∀ name, t ≠ '<' :: name := fun name e => limb ⟨'<', name, .inl rfl, e⟩
    have noHigh : ∀ name, t ≠ '>' :: name := fun name e => limb ⟨'>', name, .inr rfl, e⟩
    exact .inl (by rw [matchMode, matchMode] <;> assumption)

/-- The placeholder changes an indirect operand's acceptance only at an unresolved label. -/
theorem matchMode_ind_placeholder (w : Width) (lab : Text → Option Nat) (t : Text) :
    (matchMode w placeholder .ind ('(' :: t)).isSome = (matchMode w lab .ind ('(' :: t)).isSome ∨
      ∀ b, b ≠ .single → matchMode w lab b ('(' :: t) = none := by
  cases inner : stripSuffix [')'] t with
  | none => exact .inl (by simp [matchMode, inner])
  | some name =>
    refine (addressOrLabel_placeholder w lab name).imp (fun same => ?_) fun h b => h.matchMode_paren_eq_none inner
    simpa [matchMode, inner] using same

/-- Both passes accept an operand text in a mode, or it names a label the table lacks and no mode of pass 2 accepts it
(45_assembler R233, R237). -/
theorem matchMode_placeholder (w : Width) (lab : Text → Option Nat) (mode : Mode) (t : Text) :
    (matchMode w placeholder mode t).isSome = (matchMode w lab mode t).isSome ∨
      ∀ b, b ≠ .single → matchMode w lab b t = none := by
  by_cases operand : mode = .single
  case pos => subst operand; exact .inl rfl
  by_cases begins : BeginsWith (operandStart mode) t
  case neg =>
    exact .inl (by rw [matchMode_eq_none_of_not_beginsWith begins operand,
      matchMode_eq_none_of_not_beginsWith begins operand])
  obtain ⟨c, u, rfl, start⟩ := begins
  cases mode
  case imm =>
    obtain rfl := of_decide_eq_true start
    exact matchMode_imm_placeholder w lab u
  case ind =>
    obtain rfl := of_decide_eq_true start
    exact matchMode_ind_placeholder w lab u
  case abs =>
    refine (addressOrLabel_placeholder w lab (c :: u)).imp (fun same => ?_) fun h b => h.matchMode_eq_none
    simpa [matchMode] using same
  case rel =>
    refine (labelOperand_placeholder lab (c :: u)).imp (fun same => ?_) fun h b => h.matchMode_eq_none
    simpa [matchMode] using same
  case indx | indy =>
    obtain rfl := of_decide_eq_true start
    exact .inl rfl
  all_goals exact .inl rfl

section

variable {a : Nat} {m : Mnemonic} {cells : List Word}

theorem encodeMode_eq_some (h : encodeMode w lab a m t mode = some cells) :
    ∃ op o, opcodeOf m mode = some op ∧ matchMode w lab mode t = some o ∧ cells = w.cell op :: o.cells w a := by
  unfold encodeMode at h
  split at h
  case h_1 op o row matched => exact ⟨op, o, row, matched, (Option.some.inj h).symm⟩
  case h_2 => cases h

theorem encodeMode_isSome : (encodeMode w lab a m t mode).isSome =
    ((opcodeOf m mode).isSome && (matchMode w lab mode t).isSome) := by
  unfold encodeMode
  cases opcodeOf m mode <;> cases matchMode w lab mode t <;> rfl

theorem length_of_encodeMode (h : encodeMode w lab a m t mode = some cells) : cells.length = mode.length := by
  obtain ⟨op, o, -, matched, rfl⟩ := encodeMode_eq_some h
  exact length_cells_of_matchMode matched a

/-- Once pass 2 accepts an operand in some mode, pass 1 accepts it in the very modes pass 2 does. -/
theorem encodeMode_placeholder_isSome (h : encodeMode w lab a m t mode = some cells) (operand : mode ≠ .single)
    (b : Mode) : (encodeMode w placeholder 0 m t b).isSome = (encodeMode w lab a m t b).isSome := by
  obtain ⟨-, o, -, matched, -⟩ := encodeMode_eq_some h
  rw [encodeMode_isSome, encodeMode_isSome]
  obtain same | rejected := matchMode_placeholder w lab b t
  · rw [same]
  · cases (rejected mode operand).symm.trans matched

end
end

/-- Two partial functions defined at the same elements find the same element first. -/
theorem findSome?_of_isSome_eq {α β : Type} {f g : α → Option β} (same : ∀ a, (g a).isSome = (f a).isSome)
    {l : List α} {x : β} (h : l.findSome? f = some x) :
    ∃ a y, f a = some x ∧ g a = some y ∧ l.findSome? g = some y := by
  induction l with
  | nil => cases h
  | cons a l ih =>
    have here := same a
    rw [List.findSome?_cons] at h ⊢
    cases fa : f a with
    | none =>
      have ga : g a = none := by simpa [fa] using here
      rw [fa] at h
      rw [ga]
      exact ih h
    | some y =>
      obtain ⟨z, ga⟩ := Option.isSome_iff_exists.1 (here.trans (by rw [fa]; rfl))
      rw [fa] at h
      rw [ga]
      exact ⟨a, z, fa.trans h, ga, rfl⟩

/-- Both passes choose the same mode of a line that pass 2 encodes (45_assembler R230, R247). -/
theorem findSome?_modeOrder_placeholder {w : Width} {lab : Text → Option Nat} {t : Text} {a : Nat} {m : Mnemonic}
    {cells : List Word} (h : modeOrder.findSome? (encodeMode w lab a m t) = some cells) :
    ∃ mode measured, encodeMode w lab a m t mode = some cells ∧
      encodeMode w placeholder 0 m t mode = some measured ∧
      modeOrder.findSome? (encodeMode w placeholder 0 m t) = some measured := by
  obtain ⟨mode, -, encoded⟩ := List.exists_of_findSome?_eq_some h
  by_cases operand : mode = .single
  · subst operand
    have accepted : (encodeMode w placeholder 0 m t .single).isSome = true := by
      rw [encodeMode_isSome]
      exact encodeMode_isSome.symm.trans (Option.isSome_iff_exists.2 ⟨_, encoded⟩)
    obtain ⟨measured, first⟩ := Option.isSome_iff_exists.1 accepted
    exact ⟨.single, measured, encoded, first, by rw [modeOrder, List.findSome?_cons, first]⟩
  · exact findSome?_of_isSome_eq (encodeMode_placeholder_isSome encoded operand) h

/-- Settles O58: both passes choose the same mode, which fixes the number of cells. -/
theorem passesAgreeOnLengths : Obligations.PassesAgreeOnLengths := by
  unfold Obligations.PassesAgreeOnLengths
  intro w labels a line cells h
  unfold encodeCode at h
  split at h
  case h_1 => cases h
  case h_2 m name =>
    obtain ⟨mode, measured, encoded, first, found⟩ := findSome?_modeOrder_placeholder h
    have length : measured.length = cells.length :=
      (length_of_encodeMode first).trans (length_of_encodeMode encoded).symm
    have measures : encodeCode w placeholder 0 line = some measured := by simpa only [encodeCode, name] using found
    simp [measureLength, measures, length]

/-! A branch (45_assembler R234, 43_control R184) and the examples (45_assembler R226, R234, R240, R248). -/

/-- Settles O59: the encoded offset is signed `target - (a + 2)`, which the taken branch adds to `a + 2`. -/
theorem assembledBranchReachesItsTarget : Obligations.AssembledBranchReachesItsTarget := by
  unfold Obligations.AssembledBranchReachesItsTarget
  intro s t a target i d _ _ target_le pc lower upper encoded operand taken run
  obtain rfl : s.width.cellInt (target - (a + 2)) = d := List.singleton_inj.1 encoded
  obtain rfl : branch s true _ = t := Host.Outcome.next.inj <|
    (congrArg _ (effect_eq_branch taken _)).symm.trans ((exec_of_parts rfl operand s).symm.trans run)
  have target_lt := (s.width.le_addrMask_iff target).1 target_le
  apply Int.ofNat_inj.1
  calc ((branch s true (s.width.cellInt (target - (a + 2)))).pc.toNat : Int)
    _ = ((s.pc.toNat : Int) + (target - (a + 2))) % (2 ^ s.width.aw : Nat) := by
      rw [branch_taken_pc (s.width.fits_cellInt _), Width.signed_cellInt lower upper]
    _ = ((a + 2 : Nat) + (target - (a + 2) : Int)) % (2 ^ s.width.aw : Nat) := by
      rw [pc, Int.natCast_mod, Int.emod_add_emod]
    _ = (target : Int) % (2 ^ s.width.aw : Nat) := by congr 1; omega
    _ = target := Int.emod_eq_of_lt (by omega) (by omega)

/-- Settles O56: the assembler runs on each text. -/
theorem assemblerExamples : Obligations.AssemblerExamples := by
  unfold Obligations.AssemblerExamples
  decide +kernel

end Sys2Proof.Machine
end

section
/-! PROOFS. The disassembler family: the shown target of a branch is the PC of the taken one, and the spec's disassembly
and dump examples (46_disassembler). -/

namespace Sys2Proof.Machine

/-! The target of a branch (46_disassembler R263, 43_control R184). -/

/-- A taken branch, run with PC past the branch at `a`, leaves PC at the target the disassembler computes for `a`. -/
theorem branch_taken_pc_eq_branchTarget {s : State} {a : Nat} {d : Word} (hd : s.width.fits d = true)
    (pc : s.pc.toNat = (a + 2) % 2 ^ s.width.aw) :
    (branch s true d).pc.toNat = branchTarget s.width a d := by
  have sum : ((branch s true d).pc.toNat : Int) = ((a : Int) + 2 + s.width.signed d) % (2 ^ s.width.aw : Nat) := by
    rw [branch_taken_pc hd, pc, Int.natCast_mod, Int.emod_add_emod, Int.natCast_add, Int.cast_ofNat_Int]
  rw [branchTarget, ← sum, Int.toNat_natCast]

/-- A branch of either outcome runs as `branch` on the value of its condition (43_control R184). -/
theorem exec_eq_branch {i : Instr} {s : State} {d : Word} {taken : Bool} (operand : i.operand = .rel d)
    (condition : branchTaken i.mnemonic s = some taken) : exec i s = .next (branch s taken d) := by
  rw [exec_of_parts rfl operand, effect_eq_branch condition]

/-- Settles O60: the offset is a cell value, so the shown target is the PC the branch leaves. -/
theorem disassembledTargetIsTheRuntimeTarget : Obligations.DisassembledTargetIsTheRuntimeTarget := by
  unfold Obligations.DisassembledTargetIsTheRuntimeTarget
  intro s t a i d _ wf pc operand taken run
  have fits : s.width.fits d = true := Instr.fits_of_mem_cells wf (by simp [operand, Operand.cells])
  obtain rfl : branch s true d = t := Host.Outcome.next.inj ((exec_eq_branch operand taken).symm.trans run)
  rw [operand, operandText, branch_taken_pc_eq_branchTarget fits pc]

/-! The two read-only operations and the examples (46_disassembler R265, R267, R269). -/

/-- An operation allowed during a run is applied in every configured session (60_exceptions R295). -/
theorem hostStep_of_allowedRunning {op : HostOp} (allowed : op.allowedRunning = true) (s : State) :
    hostStep op (some s) = hostApply op s := by
  rw [hostStep, allowed, Bool.not_true, Bool.and_false, if_neg Bool.false_ne_true]

/-- A disassembly answers the listing and leaves the state as it was. -/
theorem hostStep_disassemble (s : State) : hostStep .disassemble (some s) = (some s, .lines s.disassemble) :=
  hostStep_of_allowedRunning rfl s

/-- A dump answers its lines and leaves the state as it was. -/
theorem hostStep_dump (start n : Nat) (s : State) :
    hostStep (.dump start n) (some s) = (some s, .lines (s.dump start n)) :=
  hostStep_of_allowedRunning rfl s

/-- Settles O57: the text assembles to the program of the assembler examples, and both listings are read off the state
its commit leaves. -/
theorem disassemblyAndDumpExamples : Obligations.DisassemblyAndDumpExamples := by
  unfold Obligations.DisassemblyAndDumpExamples
  obtain ⟨assembles, -⟩ := assemblerExamples
  refine ⟨_, hostStep_assemble_of_ok rfl assembles, ?_, ?_⟩
  · rw [hostStep_disassemble]
    decide +kernel
  · rw [hostStep_dump]
    decide +kernel

end Sys2Proof.Machine
end

section
/-! PROOFS. The exception and reset family: which host operations a session lets through, the launch and the reset
state, `goto`, the batch of steps behind run mode, and how a step can end (60_exceptions, 70_reset_and_hazards). -/

namespace Sys2Proof

/-- Eight bits fit a cell in every profile (00_scope R5). -/
theorem Width.fits_of_lt_256 {w : Width} {v : Word} (h : v.toNat < 2 ^ 8) : w.fits v = true :=
  (w.fits_iff v).2 (Nat.lt_of_lt_of_le h (Nat.pow_le_pow_right (by decide) w.eight_le_dw))

/-- The three instructions that halt, by their mnemonics: each has one form. -/
theorem Instr.eq_of_mnemonic_halts {i : Instr} (h : i.mnemonic ∈ [.brk, .cli, .sei]) :
    i = .brk ∨ i = .cli ∨ i = .sei := by
  cases i <;> simp_all [Instr.mnemonic]

end Sys2Proof

namespace Sys2Proof.Machine

/-! Which operations a session lets through (60_exceptions R295, 70_reset_and_hazards R319). -/

/-- With no run in progress every operation is applied. -/
theorem hostStep_of_idle {s : State} (idle : s.running = false) (op : HostOp) :
    hostStep op (some s) = hostApply op s := by
  rw [hostStep, idle, Bool.false_and, if_neg Bool.false_ne_true]

/-- A run in progress bars the operations that are not allowed during one. -/
theorem hostStep_of_running {s : State} {op : HostOp} (running : s.running = true)
    (barred : op.allowedRunning = false) : hostStep op (some s) = (some s, .refused .running) := by
  rw [hostStep, running, barred, Bool.not_false, Bool.and_self, if_pos rfl]

/-- Settles O51: the listed operations are those that a run bars, and key input is not one of them. -/
theorem runningRefusesHostWrites : Obligations.RunningRefusesHostWrites := by
  unfold Obligations.RunningRefusesHostWrites
  refine ⟨fun s op running listed => hostStep_of_running running ?_, fun s k _ => hostStep_of_allowedRunning rfl s⟩
  obtain ⟨_, rfl⟩ | ⟨_, rfl⟩ | rfl | ⟨_, rfl⟩ | rfl | rfl | ⟨_, _, rfl⟩ | ⟨_, _, rfl⟩ := listed <;> rfl

/-- Settles O52: key input is a store of a cell value, in a session that always lets it through. -/
theorem keyInputStoresTheKeycode : Obligations.KeyInputStoresTheKeycode := by
  unfold Obligations.KeyInputStoresTheKeycode
  intro s k hs
  have fits : s.width.fits (k.setWidth 32) = true := Width.fits_of_lt_256 (by rw [Byte.toNat_extend]; exact k.isLt)
  exact ⟨_, hostStep_of_allowedRunning rfl s, store_writes hs fits keyAddr⟩

/-! Reset (70_reset_and_hazards R310 to R313). -/

theorem State.doReset_pc {s : State} (h : s.origin.toNat ≤ s.width.addrMask) : s.doReset.pc = s.origin :=
  Width.addrWord_toNat_of_lt ((s.width.le_addrMask_iff _).1 h)

/-- Settles O1: the operation is `doReset`, whose fields are the stated ones and which reads none that it writes. -/
theorem resetGivesTheStatedState : Obligations.ResetGivesTheStatedState := by
  unfold Obligations.ResetGivesTheStatedState
  intro s inRange idle
  exact ⟨s.doReset, hostStep_of_idle idle .reset, rfl, rfl, rfl, rfl, rfl, State.doReset_pc inRange, s.doReset_read,
    rfl, rfl, rfl, rfl, rfl, rfl, hostStep_of_idle (s := s.doReset) idle .reset⟩

/-! Configuration and the launch state (60_exceptions R281, 70_reset_and_hazards R314, R315). -/

theorem widthOf_dw (w : Width) : widthOf w.dw = some w := by cases w <;> rfl

theorem widthOf_eq_none {w : Nat} (h8 : w ≠ 8) (h16 : w ≠ 16) (h32 : w ≠ 32) : widthOf w = none := by
  rw [widthOf] <;> assumption

section
variable {w : Nat} {width : Width} {origin : Word} {draws : List Byte} {drawCount : Nat} {old : Session}

theorem configureSession_of_unsupported (h : widthOf w = none) :
    configureSession w origin draws drawCount old = (old, .error (.configuration w)) := by
  rw [configureSession, h]

theorem configureSession_of_unreached (h : widthOf w = some width) (outside : ¬origin.toNat ≤ width.addrMask) :
    configureSession w origin draws drawCount old = (old, .refused .originOutOfRange) := by
  rw [configureSession, h]
  exact if_neg outside

theorem configureSession_of_reached (h : widthOf w = some width) (inside : origin.toNat ≤ width.addrMask) :
    configureSession w origin draws drawCount old = (some (State.launch width origin draws drawCount), .done) := by
  rw [configureSession, h]
  exact if_pos inside

theorem State.launch_read (a : Nat) : (State.launch width origin draws drawCount).read a = 0 := by
  unfold State.read
  split <;> rfl

theorem State.launch_wf (inside : origin.toNat ≤ width.addrMask) : (State.launch width origin draws drawCount).wf := by
  have zero : width.fits 0 = true := Width.fits_of_lt_256 (by decide)
  exact ⟨zero, zero, zero, Width.fits_of_lt_256 (by decide : (0x30 : Word).toNat < 2 ^ 8),
    Width.fits_of_lt_256 (by decide : (0xFF : Word).toNat < 2 ^ 8), inside, inside, zero, Memory.nil_wf _⟩

theorem State.launch_labelsUnique : (State.launch width origin draws drawCount).labelsUnique := List.nodup_nil

end

/-- Settles O6: the three outcomes of a configuration, from a session and from none; the default ORIGIN lies in every
profile's address space. -/
theorem configureGivesTheLaunchState : Obligations.ConfigureGivesTheLaunchState := by
  unfold Obligations.ConfigureGivesTheLaunchState
  refine ⟨fun w s idle h8 h16 h32 => ?_, fun w h8 h16 h32 => ?_, fun w s idle inside => ?_, fun w => ?_⟩
  · exact (hostStep_of_idle idle _).trans (configureSession_of_unsupported (widthOf_eq_none h8 h16 h32))
  · exact configureSession_of_unsupported (widthOf_eq_none h8 h16 h32)
  · exact ⟨_, (hostStep_of_idle idle _).trans (configureSession_of_reached (widthOf_dw w) inside),
      rfl, rfl, rfl, rfl, rfl, rfl, rfl, State.launch_read, rfl, rfl, rfl, rfl, rfl, rfl, rfl⟩
  · have inside : Config.bootOrigin.toNat ≤ w.addrMask := by cases w <;> decide
    exact ⟨_, configureSession_of_reached (widthOf_dw w) inside,
      rfl, rfl, rfl, rfl, rfl, rfl, rfl, State.launch_read, rfl, rfl, rfl, rfl, rfl, rfl, rfl⟩

/-- Settles O2: the reset state is the launch state of the 8-bit profile, ORIGIN 0x600 being an address of it. -/
theorem resetStateIsInRange : Obligations.ResetStateIsInRange := by
  unfold Obligations.ResetStateIsInRange
  have launched : State.reset = State.launch .w8 0x600 [] 0 := rfl
  exact ⟨launched ▸ State.launch_wf (by decide), by decide, State.launch_labelsUnique, launched, rfl, rfl, rfl, rfl⟩

/-! `goto` (60_exceptions R297). -/

theorem State.goto_of_inRange {s : State} {target : GotoTarget} {a : Nat} (addr : s.gotoAddr target = some a)
    (inRange : a ≤ s.width.addrMask) : s.goto target = ({ s.setPc a with status := .ready }, .done) := by
  rw [State.goto, addr]
  exact if_pos inRange

/-- No address in range, because the name is unknown or the number too large, is an error. -/
theorem State.goto_of_not_inRange {s : State} {target : GotoTarget}
    (outside : ∀ a, s.gotoAddr target = some a → s.width.addrMask < a) :
    s.goto target = (s, .error (.addressOutOfRange target)) := by
  rw [State.goto]
  cases addr : s.gotoAddr target with
  | none => rfl
  | some a => exact if_neg (Nat.not_le.2 (outside a addr))

/-- Of the registers `goto` writes PC alone. -/
theorem State.setPc_ready_reg (s : State) (n : Nat) {r : Reg} (hr : r ≠ .pc) :
    State.reg { s.setPc n with status := .ready } r = s.reg r := by
  cases r
  case pc => exact absurd rfl hr
  all_goals rfl

theorem lookupLabel_eq_none_iff (labels : List (Text × Nat)) (name : Text) :
    lookupLabel labels name = none ↔ name ∉ labels.map (·.1) := by
  rw [lookupLabel, Option.map_eq_none_iff, List.find?_eq_none, List.mem_map]
  simp only [beq_iff_eq, not_exists, not_and]

/-- With distinct names a label is found at its own address (45_assembler R221). -/
theorem lookupLabel_of_mem {labels : List (Text × Nat)} (unique : (labels.map (·.1)).Nodup) {name : Text} {n : Nat}
    (h : (name, n) ∈ labels) : lookupLabel labels name = some n := by
  cases found : labels.find? fun l => l.1 == name with
  | none => exact absurd (beq_self_eq_true name) (List.find?_eq_none.1 found _ h)
  | some l =>
    have named : l.1 = name := by simpa using List.find?_some found
    obtain rfl : l = (name, n) := List.inj_on_of_nodup_map unique (List.mem_of_find?_eq_some found) h named
    rw [lookupLabel, found]
    rfl

/-- Settles O53: a number is its own address, a listed name has its label's, and an unlisted one has none. -/
theorem gotoSetsPcOrFails : Obligations.GotoSetsPcOrFails := by
  unfold Obligations.GotoSetsPcOrFails
  intro s idle
  have applied (target : GotoTarget) :
      hostStep (.goto target) (some s) = (some (s.goto target).1, (s.goto target).2) := hostStep_of_idle idle _
  have pc {n : Nat} (inRange : n ≤ s.width.addrMask) : (s.setPc n).pc.toNat = n := by
    rw [State.setPc_pc, Width.toNat_addrWord, Width.addr_of_lt ((s.width.le_addrMask_iff n).1 inRange)]
  refine ⟨fun n inRange => ?_, fun n outside => ?_, fun name n unique listed inRange => ?_, fun name unlisted => ?_⟩
  · rw [applied, State.goto_of_inRange rfl inRange]
    exact ⟨_, rfl, pc inRange, rfl, fun _ => s.setPc_ready_reg n, fun _ => rfl, rfl, rfl⟩
  · rw [applied, State.goto_of_not_inRange fun a addr => Option.some.inj addr ▸ outside]
  · have known : s.gotoAddr (.label name) = some n := lookupLabel_of_mem unique listed
    rw [applied, State.goto_of_inRange known inRange]
    exact ⟨_, rfl, pc inRange, rfl⟩
  · have unknown : s.gotoAddr (.label name) = none := (lookupLabel_eq_none_iff _ _).2 unlisted
    rw [applied, State.goto_of_not_inRange (by simp [unknown])]

/-! A step is taken or refused, and run mode iterates it (60_exceptions R291, R293, R294). -/

theorem step_of_halted {s : State} {r : HaltReason} {pc : Word} (h : s.status = .halted r pc) :
    step s = .refused .halted := by
  rw [step, h]

theorem step_of_ready {s : State} (ready : s.status = .ready) : ∃ t, step s = .next t := by
  cases decoded : decode s.refresh.fetchCells with
  | error e => exact ⟨_, step_of_decode_error ready decoded⟩
  | ok p => exact ⟨_, step_of_decode ready decoded⟩

theorem step_taken_or_refused (s : State) : (∃ t, step s = .next t) ∨ step s = .refused .halted := by
  cases h : s.status with
  | ready => exact .inl (step_of_ready h)
  | halted r pc => exact .inr (step_of_halted h)

theorem State.singleStep_of_next {s t : State} (taken : step s = .next t) :
    s.singleStep = (t, .report t.report) := by
  rw [State.singleStep, taken]

theorem State.singleStep_of_refused {s : State} {r : Refusal} (refused : step s = .refused r) :
    s.singleStep = (s, .refused .halted) := by
  rw [State.singleStep, refused]

/-- Settles O14: a Halted core refuses the step, so the single step is refused, and `run` asks for a Ready core. -/
theorem haltedCoreRefusesToStep : Obligations.HaltedCoreRefusesToStep := by
  unfold Obligations.HaltedCoreRefusesToStep
  intro s r pc halted idle
  have refused := step_of_halted halted
  have notReady : ¬s.status = .ready := by simp [halted]
  refine ⟨refused, ?_, ?_⟩
  · simp only [hostStep_of_idle idle, hostApply, State.singleStep_of_refused refused]
  · rw [hostStep_of_idle idle, hostApply, if_neg notReady]

theorem State.runBatch_succ_of_next {s t : State} (taken : step s = .next t) (n : Nat) :
    State.runBatch (n + 1) s = State.runBatch n t := by
  rw [State.runBatch, taken]

theorem State.runBatch_of_refused {s : State} {r : Refusal} (refused : step s = .refused r) (n : Nat) :
    State.runBatch n s = s := by
  cases n with
  | zero => rfl
  | succ n => rw [State.runBatch, refused]

/-- What every step taken keeps, a batch keeps. -/
theorem State.runBatch_keeps {P : State → Prop} (kept : ∀ s t, P s → step s = .next t → P t) (n : Nat) {s : State}
    (h : P s) : P (State.runBatch n s) := by
  induction n generalizing s with
  | zero => exact h
  | succ n ih =>
    obtain ⟨t, taken⟩ | refused := step_taken_or_refused s
    · rw [State.runBatch_succ_of_next taken]
      exact ih (kept s t h taken)
    · rwa [State.runBatch_of_refused refused]

theorem State.runBatch_sameSetup (n : Nat) (s : State) : SameSetup s (State.runBatch n s) :=
  State.runBatch_keeps (fun _ _ same taken => same.trans (step_sameSetup taken)) n
    ⟨rfl, rfl, rfl, rfl, rfl, rfl⟩

theorem State.runBatch_add (n m : Nat) (s : State) :
    State.runBatch (n + m) s = State.runBatch m (State.runBatch n s) := by
  induction n generalizing s with
  | zero => rw [Nat.zero_add, State.runBatch]
  | succ n ih =>
    obtain ⟨t, taken⟩ | refused := step_taken_or_refused s
    · rw [Nat.add_right_comm, State.runBatch_succ_of_next taken, State.runBatch_succ_of_next taken, ih]
    · simp only [State.runBatch_of_refused refused]

theorem run_succ_of_next {M : Host.Core} {s t : M.State} (taken : M.step s = .next t) (n : Nat) :
    M.run (n + 1) s = M.run n t := by
  rw [Host.Core.run, taken]

theorem run_succ_of_refused {M : Host.Core} {s : M.State} {r : M.Refusal} (refused : M.step s = .refused r) (n : Nat) :
    M.run (n + 1) s = .refused r := by
  rw [Host.Core.run, refused]

/-- A run of the machine in which every step is taken ends where the batch does. -/
theorem State.runBatch_of_run {n : Nat} {s t : State} (h : Host.Core.run core n s = .next t) :
    State.runBatch n s = t := by
  induction n generalizing s with
  | zero => exact Host.Outcome.next.inj h
  | succ n ih =>
    obtain ⟨u, taken⟩ | refused := step_taken_or_refused s
    · rw [State.runBatch_succ_of_next taken]
      exact ih ((run_succ_of_next (M := core) taken n).symm.trans h)
    · cases (run_succ_of_refused (M := core) refused n).symm.trans h

theorem State.with_running_eq {s : State} {b : Bool} (h : s.running = b) : { s with running := b } = s := by
  subst h
  rfl

/-- Settles O50: the batch follows the step, taken or refused; the driver applies the batch, which no step's change of
the running flag disturbs. -/
theorem runModeIsIteratedStep : Obligations.RunModeIsIteratedStep := by
  unfold Obligations.RunModeIsIteratedStep
  refine ⟨fun n s t => State.runBatch_of_run, fun n s t taken => State.runBatch_succ_of_next taken n,
    fun n s notReady => ?halted, State.runBatch_add, fun s ready idle => ?run, fun n s running => ?driver,
    hostStep_of_allowedRunning rfl, fun s t taken idle => ?single⟩
  case halted =>
    cases h : s.status with
    | ready => exact absurd h notReady
    | halted r pc => exact State.runBatch_of_refused (step_of_halted h) n
  case run => rw [hostStep_of_idle idle, hostApply, if_pos ready]
  case driver =>
    obtain ⟨-, -, -, -, -, same⟩ := State.runBatch_sameSetup n s
    refine ⟨_, (hostStep_of_allowedRunning rfl s).trans (if_pos running), rfl, ?_⟩
    exact State.with_running_eq (same.trans running)
  case single => simp only [hostStep_of_idle idle, hostApply, State.singleStep_of_next taken, State.report]

/-! How a step can end (60_exceptions R285, R286; 30_encoding R83, R98). -/

theorem State.pcZeroCheck_of_halted {s : State} {r : HaltReason} {pc : Word} (h : s.status = .halted r pc) :
    s.pcZeroCheck = s := by
  simp [State.pcZeroCheck, h]

/-- The check leaves a Ready core Ready with PC not 0, or halts it at 0. -/
theorem State.pcZeroCheck_of_ready {s : State} (ready : s.status = .ready) :
    (s.pcZeroCheck.status = .ready ∧ s.pcZeroCheck.pc ≠ 0) ∨
      (s.pcZeroCheck.status = .halted .pcZero 0 ∧ s.pcZeroCheck.pc = 0) := by
  by_cases zero : s.pc = 0
  · rw [State.pcZeroCheck, if_pos ⟨ready, zero⟩]
    exact .inr ⟨rfl, zero⟩
  · rw [State.pcZeroCheck, if_neg fun h => zero h.2]
    exact .inl ⟨ready, zero⟩

/-- Past a one-cell instruction the address of its opcode cell is where the fetch began (10_state R25). -/
theorem State.wf.opcodeAddr_advance_one {s : State} (h : s.wf) : (s.advance 1).opcodeAddr = s.pc := by
  have pc_lt := h.pc_lt
  have wraps : 1 + s.width.addrMask = 2 ^ s.width.aw := by
    rw [s.width.addrMask_eq, Nat.add_sub_cancel' s.width.pow_aw_pos]
  apply BitVec.eq_of_toNat_eq
  calc (s.advance 1).opcodeAddr.toNat
    _ = s.width.addr (s.width.addr (s.pc.toNat + 1) + s.width.addrMask) := by
      rw [State.opcodeAddr, Width.toNat_addrWord, State.advance_width, State.advance_pc, Width.toNat_addrWord]
    _ = (s.pc.toNat + (1 + s.width.addrMask)) % 2 ^ s.width.aw := by
      rw [Width.addr, Width.addr, Nat.mod_add_mod, Nat.add_assoc]
    _ = s.pc.toNat := by rw [wraps, Nat.add_mod_right, Nat.mod_eq_of_lt pc_lt]

/-- Every way a step can end, with the opcode cell that is read at PC after the refresh. -/
theorem step_ends {s t : State} (hs : s.wf) (h : step s = .next t) :
    (t.status = .ready ∧ t.pc ≠ 0) ∨
      (t.status = .halted .pcZero 0 ∧ t.pc = 0) ∨
      (t.status = .halted .brk s.pc ∧ s.refresh.read s.pc.toNat = 0x00) ∨
      (t.status = .halted .unimplementedFeature s.pc ∧
        (s.refresh.read s.pc.toNat = 0x58 ∨ s.refresh.read s.pc.toNat = 0x78)) ∨
      (t.status = .halted .unknownOpcode s.pc ∧ lookupOpcode (s.refresh.read s.pc.toNat).toNat = none) := by
  rcases step_cases h with ⟨ready, ⟨e, unmapped, rfl⟩ | ⟨i, rest, decoded, rfl⟩⟩
  · have outside := State.lookupOpcode_of_fetch_error unmapped
    rw [State.refresh_pc] at outside
    have status : s.refresh.unknownOpcode.status = .halted .unknownOpcode s.refresh.pc := rfl
    rw [State.refresh_pc] at status
    exact .inr (.inr (.inr (.inr ⟨status, outside⟩)))
  · by_cases halts : i.mnemonic ∈ [.brk, .cli, .sei]
    · have opcode : i.opcode = s.refresh.read s.refresh.pc.toNat := opcode_of_decode decoded
      rw [State.refresh_pc] at opcode
      have halted (r : HaltReason) :
          ((s.refresh.advance 1).halt r (s.refresh.advance 1).opcodeAddr).pcZeroCheck.status = .halted r s.pc := by
        rw [State.pcZeroCheck_of_halted rfl, State.halt_status, hs.refresh.opcodeAddr_advance_one, State.refresh_pc]
      obtain rfl | rfl | rfl := Instr.eq_of_mnemonic_halts halts
      · exact .inr (.inr (.inl ⟨halted .brk, opcode.symm⟩))
      · exact .inr (.inr (.inr (.inl ⟨halted .unimplementedFeature, .inl opcode.symm⟩)))
      · exact .inr (.inr (.inr (.inl ⟨halted .unimplementedFeature, .inr opcode.symm⟩)))
    · have still : (effect i.mnemonic i.operand (s.refresh.advance i.length)).status = .ready := by
        rw [effect_status_of_not_mem halts, State.advance_status, State.refresh_status, ready]
      exact (State.pcZeroCheck_of_ready still).imp_right .inl

/-- Settles O15: each clause is read off the five ways a step can end. -/
theorem haltsReportTheirAddress : Obligations.HaltsReportTheirAddress := by
  unfold Obligations.HaltsReportTheirAddress
  intro s t hs h
  obtain ⟨status, pc⟩ | ⟨status, pc⟩ | ⟨status, cell⟩ | ⟨status, cell⟩ | ⟨status, cell⟩ := step_ends hs h
  · simpa [status] using pc
  · simpa [status] using pc
  · simpa [status] using cell
  · simpa [status] using cell
  · simpa [status] using cell

end Sys2Proof.Machine
end

section
/-! PROOFS. Every host operation, an assembly and a configuration among them, keeps the state in range and the
label names distinct (60_exceptions R293 to R298, 45_assembler R221). -/

namespace Sys2Proof.Machine

/-! Label names stay distinct through pass 1 (45_assembler R221, R226). -/

theorem pass1Label_nodup {n : Nat} {line : Text} {labels labels' : List (Text × Nat)} {cursor : Nat}
    (h : pass1Label n line labels cursor = .ok labels') (unique : (labels.map (·.1)).Nodup) :
    (labels'.map (·.1)).Nodup := by
  unfold pass1Label at h
  split at h
  case h_1 => cases h; exact unique
  case h_2 name _ _ =>
    split at h
    case isTrue => cases h
    case isFalse unlisted =>
      cases h
      have fresh : name ∉ labels.map (·.1) :=
        (lookupLabel_eq_none_iff labels name).1 (Option.not_isSome_iff_eq_none.1 unlisted)
      rw [List.map_append, List.map_singleton, ← List.concat_eq_append]
      exact unique.concat fresh

theorem pass1_nodup {w : Width} {lines labels labels' : List (Text × Nat)} {cursor : Nat}
    (h : pass1 w lines labels cursor = .ok labels') (unique : (labels.map (·.1)).Nodup) :
    (labels'.map (·.1)).Nodup := by
  induction lines generalizing labels cursor with
  | nil => cases h; exact unique
  | cons line lines ih =>
    rw [pass1] at h
    split at h
    · cases h
    · next labelled =>
      split at h
      · cases h
      · exact ih h (pass1Label_nodup labelled unique)

/-- A program's label table is the one pass 1 built. -/
theorem assembleText_labels_nodup {w : Width} {origin : Nat} {text : Text} {prog : Program}
    (h : assembleText w origin text = .ok prog) : (prog.labels.map (·.1)).Nodup := by
  unfold assembleText at h
  split at h
  · cases h
  · next first_pass =>
    split at h
    · cases h
    · obtain ⟨-, -, rfl⟩ := finishProgram_eq_ok h
      exact pass1_nodup first_pass List.nodup_nil

/-! What each operation does to a state in range with distinct label names (60_exceptions R293 to R298). -/

/-- A state in range with distinct label names. -/
structure State.Sound (s : State) : Prop where
  wf : s.wf
  unique : s.labelsUnique

/-- What the host operation answered leaves a configured session whose state is sound. -/
def EndsSound (answer : Session × HostResult) : Prop := ∃ t, answer.1 = some t ∧ t.Sound

/-- The host's running flag is no part of it (log 9). -/
theorem State.Sound.setRunning {s : State} (h : s.Sound) (b : Bool) : State.Sound { s with running := b } :=
  ⟨h.wf, h.unique⟩

theorem State.Sound.step {s t : State} (h : s.Sound) (taken : step s = .next t) : t.Sound := by
  obtain ⟨wf, unique⟩ := h
  obtain ⟨-, -, labels, -⟩ := step_sameSetup taken
  exact ⟨stepKeepsTheStateInRange s t wf taken, by rwa [State.labelsUnique, labels]⟩

theorem State.Sound.runBatch {s : State} (h : s.Sound) (n : Nat) : (State.runBatch n s).Sound :=
  State.runBatch_keeps (fun _ _ => State.Sound.step) n h

theorem State.Sound.singleStep {s : State} (h : s.Sound) : s.singleStep.1.Sound := by
  obtain ⟨t, taken⟩ | refused := step_taken_or_refused s
  · rw [State.singleStep_of_next taken]
    exact h.step taken
  · rwa [State.singleStep_of_refused refused]

theorem State.Sound.goto {s : State} (h : s.Sound) (target : GotoTarget) : (s.goto target).1.Sound := by
  by_cases reached : ∃ a, s.gotoAddr target = some a ∧ a ≤ s.width.addrMask
  · obtain ⟨a, addr, inRange⟩ := reached
    rw [State.goto_of_inRange addr inRange]
    exact ⟨h.wf.setPc a, h.unique⟩
  · rwa [State.goto_of_not_inRange fun a addr => Nat.not_le.1 fun inRange => reached ⟨a, addr, inRange⟩]

theorem State.Sound.writeReg {s : State} (h : s.Sound) (r : Reg) (v : Nat) : (s.writeReg r v).Sound := by
  obtain ⟨wf, unique⟩ := h
  cases r
  case a => exact ⟨wf.setA _, unique⟩
  case x => exact ⟨wf.setX _, unique⟩
  case y => exact ⟨wf.setY _, unique⟩
  case p => exact ⟨wf.setP _, unique⟩
  case sp => exact ⟨wf.setSp _, unique⟩
  case pc => exact ⟨wf.setPc _, unique⟩

theorem State.Sound.store {s : State} (h : s.Sound) {a : Nat} (inRange : a ≤ s.width.addrMask) (v : Word) :
    (s.store a v).Sound :=
  ⟨h.wf.store ((s.width.le_addrMask_iff a).1 inRange) v, by rw [State.labelsUnique, State.store_labels]; exact h.unique⟩

/-- A commit stores cells of the address space over a reset memory; a failure empties the label table. -/
theorem State.Sound.assemble {s : State} (h : s.Sound) (text : Text) : (s.assemble text).1.Sound := by
  rw [State.assemble]
  cases assembled : assembleText s.width s.origin.toNat text with
  | ok prog =>
    obtain ⟨-, -, -, -, inRange⟩ := assembleText_eq_ok assembled
    have stored : (s.doReset.storeAll prog.cells).wf := h.wf.doReset.storeAll inRange
    exact ⟨stored, assembleText_labels_nodup assembled⟩
  | error e => cases e <;> exact ⟨h.wf, List.nodup_nil⟩

theorem State.Sound.configureSession {s : State} (h : s.Sound) (w : Nat) :
    EndsSound (configureSession w s.origin s.draws s.drawCount (some s)) := by
  cases supported : widthOf w with
  | none =>
    rw [configureSession_of_unsupported supported]
    exact ⟨s, rfl, h⟩
  | some width =>
    by_cases inside : s.origin.toNat ≤ width.addrMask
    · rw [configureSession_of_reached supported inside]
      exact ⟨_, rfl, State.launch_wf inside, State.launch_labelsUnique⟩
    · rw [configureSession_of_unreached supported inside]
      exact ⟨s, rfl, h⟩

theorem hostApply_assemble (text : Text) (s : State) :
    (hostApply (.assemble text) s).1 = some (s.assemble text).1 := by
  rw [hostApply]
  split <;> next answer => rw [answer]

/-- An operation that is applied leaves the state as it was, or does what the lemmas above say of it. -/
theorem hostApply_endsSound (op : HostOp) {s : State} (h : s.Sound) : EndsSound (hostApply op s) := by
  cases op
  case configure w => exact h.configureSession w
  case assemble text => exact ⟨_, hostApply_assemble text s, h.assemble text⟩
  case reset => exact ⟨_, rfl, h.wf.doReset, h.unique⟩
  case goto target => exact ⟨_, rfl, h.goto target⟩
  case step => exact ⟨_, rfl, h.singleStep⟩
  case run =>
    rw [hostApply]
    split
    · exact ⟨_, rfl, h.setRunning true⟩
    · exact ⟨_, rfl, h⟩
  case driver batch =>
    rw [hostApply]
    split
    · exact ⟨_, rfl, (h.runBatch batch).setRunning _⟩
    · exact ⟨_, rfl, h⟩
  case stop => exact ⟨_, rfl, h.setRunning false⟩
  case key k => exact ⟨_, rfl, h.store ((s.width.le_addrMask_iff _).2 (keyAddr_lt _)) _⟩
  case writeReg r v => exact ⟨_, rfl, h.writeReg r v⟩
  case writeMem a v =>
    rw [hostApply]
    split
    case isTrue inRange => exact ⟨_, rfl, h.store inRange _⟩
    case isFalse => exact ⟨_, rfl, h⟩
  case disassemble => exact ⟨_, rfl, h⟩
  case dump start n => exact ⟨_, rfl, h⟩

/-- Settles O5: an operation is refused during a run, which changes nothing, or applied, and every operation applied to
a sound state ends in one. -/
theorem hostOperationsKeepTheStateInRange : Obligations.HostOperationsKeepTheStateInRange := by
  unfold Obligations.HostOperationsKeepTheStateInRange
  intro op s wf unique
  have ends : EndsSound (hostStep op (some s)) := by
    rw [hostStep]
    split
    · exact ⟨s, rfl, wf, unique⟩
    · exact hostApply_endsSound op ⟨wf, unique⟩
  obtain ⟨t, session, sound⟩ := ends
  exact ⟨t, (hostStep op (some s)).2, Prod.ext session rfl, sound.wf, sound.unique⟩

end Sys2Proof.Machine
end
